-- ==== Sys2Proof/Word.lean ====
section
/-!
DEFINITION. The word types of the FK2610 model and the fixed-size bank that holds a fixed number of
like entries (sixteen drives, sixty-four accounts, four links).
-/

namespace Sys2Proof

/-- One byte of a link frame (R181). -/
abbrev Byte := BitVec 8

/-- One of the four request links, 0 to 3. -/
abbrev Link := Fin 4

/-- One of the sixteen drives of the drive string, 0 to 15. -/
abbrev DriveId := Fin 16

/-- One of the two operator consoles, 0 and 1. -/
abbrev Console := Fin 2

/-- One of the two ring-station bays (R95). -/
abbrev RingBay := Fin 2

/-- One of the four hatch bays (R95). -/
abbrev HatchBay := Fin 4

/-- An index of the account table (R151); index 0 is UNASSIGNED. -/
abbrev AccountId := Fin 64

/-- A six-character volume serial or account code, padded on the right with blanks. A value that came
from outside may be malformed; `codeWellFormed` judges it. -/
abbrev Code := List Char

/-- The code of six blanks: an absent account code, or an unused account entry (R151). -/
def blankCode : Code := List.replicate 6 ' '

/-- A bank of exactly `n` entries, indexed from 0. The length is part of the value, so an entry is read
without a default. -/
structure Bank (α : Type) (n : Nat) where
  items : List α
  size : items.length = n
  deriving DecidableEq, Repr

namespace Bank

variable {α β : Type} {n : Nat}

/-- The entry at index `i`. -/
def get (b : Bank α n) (i : Fin n) : α := b.items[i.val]'(by rw [b.size]; exact i.isLt)

/-- The bank with entry `i` replaced. -/
def set (b : Bank α n) (i : Fin n) (x : α) : Bank α n := ⟨b.items.set i x, by simp [b.size]⟩

/-- The bank with entry `i` changed by `f`. -/
def update (b : Bank α n) (i : Fin n) (f : α → α) : Bank α n := b.set i (f (b.get i))

/-- The bank whose every entry is `x`. -/
def replicate (n : Nat) (x : α) : Bank α n := ⟨List.replicate n x, by simp⟩

/-- The bank with every entry changed by `f`. -/
def map (f : α → β) (b : Bank α n) : Bank β n := ⟨b.items.map f, by simp [b.size]⟩

end Bank

/-- The sixteen drives in ascending order. -/
def allDrives : List DriveId := [0, 1, 2, 3, 4, 5, 6, 7, 8, 9, 10, 11, 12, 13, 14, 15]

/-- The four request links in ascending order. -/
def allLinks : List Link := [0, 1, 2, 3]

/-- The two consoles in ascending order. -/
def allConsoles : List Console := [0, 1]

/-- The two ring bays in ascending order. -/
def allRingBays : List RingBay := [0, 1]

/-- The four hatch bays in ascending order. -/
def allHatchBays : List HatchBay := [0, 1, 2, 3]

end Sys2Proof
end

