-- ==== Sys2Proof/Syntax.lean ====
section
/-!
DEFINITION. The commands of the FK2610: one constructor of `Instr` for each row of
spec/opcode_table.json, with the operands each carries. A command is a frame taken from a connection,
a line event, a timer expiry or a tick of the time base.
-/

namespace Sys2Proof

/-- The two robot arms (R68). -/
inductive ArmId where
  | a
  | b
  deriving DecidableEq, Repr

/-- The state of the access door (R169). -/
inductive DoorState where
  | closed
  | opened
  deriving DecidableEq, Repr

/-- A cell address rack-column-level. Each part of an address inside the part is 0 to 15; an address in
a frame may be out of range and is then refused BAD_FIELD (R11, R13). -/
structure Cell where
  rack : Nat
  column : Nat
  level : Nat
  deriving DecidableEq, Repr, Inhabited

/-- Where a volume is kept: a cell, or SHELF (R1). -/
inductive Home where
  | cell (c : Cell)
  | shelf
  deriving DecidableEq, Repr, Inhabited

/-- The pools PRIVATE, SCRATCH and CLEAN (R1). -/
inductive Pool where
  | privatePool
  | scratchPool
  | cleanPool
  deriving DecidableEq, Repr, Inhabited

/-- A volume's ring state IN or OUT (R1). -/
inductive RingState where
  | ringIn
  | ringOut
  deriving DecidableEq, Repr, Inhabited

/-- The mount kinds ROBOT, RING, MANUAL and FOREIGN (R22, R41). -/
inductive MountKind where
  | robot
  | ring
  | manual
  | foreign
  deriving DecidableEq, Repr, Inhabited

/-- The intent of a MOUNT (R41). -/
inductive Intent where
  | read
  | write
  deriving DecidableEq, Repr, Inhabited

/-- The fifteen prompt kinds (R110). -/
inductive PromptKind where
  | mountByHand
  | demountByHand
  | fitRing
  | removeRing
  | approveMount
  | checkReel
  | verifyVolume
  | armFault
  | takeFromHatch
  | placeInHatch
  | driveService
  | wrongReel
  | needScratch
  | needCleaner
  | foreignReel
  deriving DecidableEq, Repr, Inhabited

/-- The seven notice classes (R199). -/
inductive NoticeClass where
  | armState
  | driveService
  | recordsHigh
  | periodClosed
  | errorLogged
  | promptEscalated
  | modeChange
  deriving DecidableEq, Repr, Inhabited

/-- The close modes of the clock (R133). -/
inductive CloseMode where
  | hourly
  | daily
  | shifts
  | manual
  deriving DecidableEq, Repr, Inhabited

/-- The causes of a FAULT completion (R75, R193). -/
inductive FaultCause where
  | misgrip
  | noReel
  | occupied
  | refused
  | blocked
  | stopped
  deriving DecidableEq, Repr, Inhabited

/-- The check codes of a CHECK (R21); a code other than the three is forwarded and counts nothing. -/
inductive CheckCode where
  | correctable
  | permanent
  | intervention
  | other
  deriving DecidableEq, Repr

/-- The outcome the APPROVE_MOUNT default of the policy names (R131). -/
inductive ApproveDefault where
  | approve
  | deny
  deriving DecidableEq, Repr, Inhabited

/-- The frame kinds named by the spec: request frames (R186, R187), management frames (R188), the drive
frames that are read (R21), completions (R193), console frames (R129), the frames the part originates on a
request link (R66, R185), on the robot link and on a console line (R193), and any other kind by its code. -/
inductive FrameKind where
  | mount | demount | cancel | queryVolume
  | addVolumes | deleteVolume | setHome | readVolume | loadGeometry | loadDrives | loadAccounts
  | loadTariff | loadRouting | setPolicy | setClock | adjustClock | roundClock | readClock | setClose
  | closePeriod | readRecords | readClosed | readAccount | readErrors | clearErrors | readNotices
  | clearNotices | setNotices | readStatus | clearResetCause | start | quiesce | resetWarm | eject
  | enter
  | rewindUnload | ready | unloaded | check | usage
  | completion
  | reply | recall | refresh
  | response | mountPending | libraryReset | notice
  | mountComplete | mountFailed | demountComplete | demountFailed | moveComplete | moveFailed | cancelled
  | order
  | showPrompt | remind | remove | clearAll | replyResult
  | other (code : Byte)
  deriving DecidableEq, Repr, Inhabited

/-- The kind field of a frame as it arrives: the byte on the wire and the kind that byte names. The spec
lists no numeric code for any kind, so an arriving frame carries both and the model does not constrain
how they pair (assumption log 2). -/
structure WireKind where
  byte : Byte
  name : FrameKind
  deriving DecidableEq, Repr

/-- A frame as it arrives on a connection (R181): the six header bytes, the payload bytes received
between the header and the CRC, and the CRC received. -/
structure WireFrame where
  destination : Byte
  origin : Byte
  kind : WireKind
  tag : Byte
  length : Byte
  train : Byte
  payload : List Byte
  crc : BitVec 16
  deriving DecidableEq, Repr

/-- The content of a MOUNT frame (R186). `flags` is its byte 1. -/
structure MountRequest where
  drive : Nat
  flags : Byte
  serial : Code
  account : Code
  priority : Nat
  deriving DecidableEq, Repr

/-- The two ways a CANCEL names its job (R63). -/
inductive CancelTarget where
  | byTag (tag : Nat)
  | byNumber (number : Nat)
  deriving DecidableEq, Repr, Inhabited

/-- One item of ADD_VOLUMES (R11). -/
structure AddItem where
  serial : Code
  home : Home
  pool : Pool
  ring : RingState
  owner : Code
  usesLeft : Nat
  deriving DecidableEq, Repr, Inhabited

/-- What a READ_VOLUME names (R14). -/
inductive VolumeQuery where
  | bySerial (serial : Code)
  | byIndex (start : Nat)
  deriving DecidableEq, Repr, Inhabited

/-- One item of LOAD_GEOMETRY (R16). -/
inductive GeometryItem where
  | column (rack column position : Nat)
  | drive (drive position : Nat)
  | ringBay (bay position : Nat)
  | hatchBay (bay position : Nat)
  | separation (value : Nat)
  deriving DecidableEq, Repr, Inhabited

/-- One item of LOAD_DRIVES (R23). -/
structure DriveItem where
  drive : Nat
  configured : Bool
  driveClass : Nat
  owningLink : Nat
  autoDemount : Bool
  threshold : Nat
  cleanInterval : Nat
  deriving DecidableEq, Repr, Inhabited

/-- One item of LOAD_ACCOUNTS (R152). -/
structure AccountItem where
  index : Nat
  code : Code
  allowance : Nat
  deriving DecidableEq, Repr, Inhabited

/-- The whole tariff a LOAD_TARIFF carries (R143, R144). Rates are by class and then band; fees are in
the order ROBOT, RING, MANUAL, FOREIGN. -/
structure TariffFrame where
  bandCount : Nat
  starts : Bank Nat 4
  rates : Bank (Bank Nat 4) 4
  fees : Bank Nat 4
  transfers : Bank Nat 4
  grace : Nat
  deriving DecidableEq, Repr

/-- A set of consoles, as the routing table and a prompt hold it (R114). -/
structure Targets where
  console0 : Bool
  console1 : Bool
  deriving DecidableEq, Repr, Inhabited

/-- One item of LOAD_ROUTING (R114); `kind` is absent when the item names an unknown kind. -/
structure RoutingItem where
  kind : Option PromptKind
  targets : Targets
  deriving DecidableEq, Repr, Inhabited

/-- The policy settings that are exponents of an interval (R190, R131). -/
inductive ExponentSetting where
  | supervision
  | loadTimeout
  | aging
  | reminder
  | decision
  | information
  | deferral
  deriving DecidableEq, Repr, Inhabited

/-- One item of SET_POLICY (R191). An absent value is one that is neither of the two allowed;
`unknown` names no setting. -/
inductive PolicyItem where
  | exponent (setting : ExponentSetting) (value : Nat)
  | escalationCount (value : Nat)
  | approveDefault (value : Option ApproveDefault)
  | highWater (value : Nat)
  | permission (link : Nat) (value : Option Bool)
  | unknown
  deriving DecidableEq, Repr, Inhabited

/-- One item of SET_NOTICES (R201). An absent value is neither set nor clear (on nor off);
`unknown` names no class or setting. -/
inductive NoticeItem where
  | raiseEnable (cls : NoticeClass) (value : Option Bool)
  | clearEnable (cls : NoticeClass) (value : Option Bool)
  | noticeLink (link : Nat)
  | clearOnRead (value : Option Bool)
  | unknown
  deriving DecidableEq, Repr, Inhabited

/-- The commands of the part, one constructor for each row of spec/opcode_table.json, in the table's
order. A link frame names the request link it is taken from and its tag. -/
inductive Instr where
  /-- POWER_ON (R169): power is applied while the door sense line shows `door`. -/
  | powerOn (door : DoorState)
  /-- RESET_LINE (R178). -/
  | resetLine
  /-- DOOR_OPEN (R176). -/
  | doorOpen
  /-- DOOR_CLOSE (R177). -/
  | doorClose
  /-- LINK_FRAME_ARRIVAL (R181). -/
  | linkFrameArrival (link : Link) (frame : WireFrame)
  /-- MOUNT (R45). -/
  | mount (link : Link) (tag : Nat) (request : MountRequest)
  /-- DEMOUNT (R48). -/
  | demount (link : Link) (tag : Nat) (drive : Nat) (unload : Bool) (priority : Nat)
  /-- CANCEL (R63). -/
  | cancel (link : Link) (tag : Nat) (target : CancelTarget)
  /-- QUERY_VOLUME (R187). -/
  | queryVolume (link : Link) (tag : Nat) (serial : Code)
  /-- ADD_VOLUMES (R11). -/
  | addVolumes (link : Link) (tag : Nat) (items : List AddItem)
  /-- DELETE_VOLUME (R12). -/
  | deleteVolume (link : Link) (tag : Nat) (serial : Code)
  /-- SET_HOME (R13). -/
  | setHome (link : Link) (tag : Nat) (serial : Code) (home : Home)
  /-- READ_VOLUME (R14). -/
  | readVolume (link : Link) (tag : Nat) (query : VolumeQuery)
  /-- LOAD_GEOMETRY (R16). -/
  | loadGeometry (link : Link) (tag : Nat) (items : List GeometryItem)
  /-- LOAD_DRIVES (R23). -/
  | loadDrives (link : Link) (tag : Nat) (items : List DriveItem)
  /-- LOAD_ACCOUNTS (R152). -/
  | loadAccounts (link : Link) (tag : Nat) (items : List AccountItem)
  /-- LOAD_TARIFF (R144). -/
  | loadTariff (link : Link) (tag : Nat) (tariff : TariffFrame)
  /-- LOAD_ROUTING (R114). -/
  | loadRouting (link : Link) (tag : Nat) (items : List RoutingItem)
  /-- SET_POLICY (R191). -/
  | setPolicy (link : Link) (tag : Nat) (items : List PolicyItem)
  /-- SET_CLOCK (R138). -/
  | setClock (link : Link) (tag : Nat) (day : Nat) (second : Nat)
  /-- ADJUST_CLOCK (R136). -/
  | adjustClock (link : Link) (tag : Nat) (compensation : Int)
  /-- ROUND_CLOCK (R139). -/
  | roundClock (link : Link) (tag : Nat)
  /-- READ_CLOCK (R137). -/
  | readClock (link : Link) (tag : Nat)
  /-- SET_CLOSE (R141). -/
  | setClose (link : Link) (tag : Nat) (mode : CloseMode) (times : List Nat)
  /-- CLOSE_PERIOD (R142). -/
  | closePeriod (link : Link) (tag : Nat)
  /-- READ_RECORDS (R159). -/
  | readRecords (link : Link) (tag : Nat)
  /-- READ_CLOSED (R166). -/
  | readClosed (link : Link) (tag : Nat) (index : Nat)
  /-- READ_ACCOUNT (R153). -/
  | readAccount (link : Link) (tag : Nat) (index : Nat)
  /-- READ_ERRORS (R197). -/
  | readErrors (link : Link) (tag : Nat)
  /-- CLEAR_ERRORS (R198). -/
  | clearErrors (link : Link) (tag : Nat)
  /-- READ_NOTICES (R200). -/
  | readNotices (link : Link) (tag : Nat)
  /-- CLEAR_NOTICES (R200). -/
  | clearNotices (link : Link) (tag : Nat) (classes : List NoticeClass)
  /-- SET_NOTICES (R201). -/
  | setNotices (link : Link) (tag : Nat) (items : List NoticeItem)
  /-- READ_STATUS (R189). -/
  | readStatus (link : Link) (tag : Nat)
  /-- CLEAR_RESET_CAUSE (R180). -/
  | clearResetCause (link : Link) (tag : Nat)
  /-- START (R171). -/
  | start (link : Link) (tag : Nat)
  /-- QUIESCE (R174). -/
  | quiesce (link : Link) (tag : Nat)
  /-- RESET_WARM (R178). -/
  | resetWarm (link : Link) (tag : Nat)
  /-- EJECT (R51). -/
  | eject (link : Link) (tag : Nat) (serial : Code) (priority : Nat)
  /-- ENTER (R52). -/
  | enter (link : Link) (tag : Nat) (serial : Code) (priority : Nat)
  /-- READY (R27): a good READY frame from the drive string; `label` is absent for no label. -/
  | ready (drive : DriveId) (writeEnabled : Bool) (label : Option Code)
  /-- UNLOADED (R31). -/
  | unloaded (drive : DriveId)
  /-- CHECK (R34). -/
  | check (drive : DriveId) (code : CheckCode)
  /-- USAGE (R32): blocks read, blocks written and correctable errors since the previous USAGE. -/
  | usage (drive : DriveId) (blocksRead : Nat) (blocksWritten : Nat) (correctable : Nat)
  /-- DRIVE_STATUS (R20): any other frame from the drive string. -/
  | driveStatus (drive : DriveId) (frame : WireFrame)
  /-- COMPLETION_DONE (R74); `handLoaded` is read for a HOME (R193). -/
  | completionDone (tag : Nat) (position : Nat) (handLoaded : Bool)
  /-- COMPLETION_FAULT (R75). -/
  | completionFault (tag : Nat) (position : Nat) (cause : FaultCause)
  /-- LOAD_TIMEOUT (R26). -/
  | loadTimeout (drive : DriveId)
  /-- CLEAN_TIMEOUT (R38). -/
  | cleanTimeout (drive : DriveId)
  /-- MOTION_TIMEOUT (R72). -/
  | motionTimeout (arm : ArmId)
  /-- AGING_EXPIRY (R59), of the job with this number. -/
  | agingExpiry (job : Nat)
  /-- REMINDER (R121), of the prompt with this number. -/
  | reminder (prompt : Nat)
  /-- LIMIT_EXPIRY (R123), of the prompt with this number. -/
  | limitExpiry (prompt : Nat)
  /-- DEFER_EXPIRY (R120), of the prompt with this number on this console. -/
  | deferExpiry (console : Console) (prompt : Nat)
  /-- SECOND_ADVANCE (R134). -/
  | secondAdvance
  /-- REPLY_DEFER (R118). -/
  | replyDefer (console : Console) (prompt : Nat)
  /-- REPLY_DONE (R126). -/
  | replyDone (console : Console) (prompt : Nat)
  /-- REPLY_CANCEL (R126). -/
  | replyCancel (console : Console) (prompt : Nat)
  /-- REPLY_APPROVE (R56). -/
  | replyApprove (console : Console) (prompt : Nat)
  /-- REPLY_DENY (R56). -/
  | replyDeny (console : Console) (prompt : Nat)
  /-- REPLY_RETRY (R54). -/
  | replyRetry (console : Console) (prompt : Nat)
  /-- REPLY_INCELL (R55). -/
  | replyInCell (console : Console) (prompt : Nat)
  /-- REPLY_OUTSIDE (R55). -/
  | replyOutside (console : Console) (prompt : Nat)
  /-- REPLY_RESTORED (R88). -/
  | replyRestored (console : Console) (prompt : Nat)
  /-- REPLY_PARKED (R89). -/
  | replyParked (console : Console) (prompt : Nat)
  /-- REPLY_REMOVED (R90). -/
  | replyRemoved (console : Console) (prompt : Nat)
  /-- RECALL (R119). -/
  | recall (console : Console)
  /-- REFRESH (R130). -/
  | refresh (console : Console)
  /-- TIME_BASE_TICK (R134). -/
  | timeBaseTick
  /-- ROBOT_LINK_FRAME_DISCARDED (R193): a frame on the robot link, judged for CRC and form. -/
  | robotLinkFrameDiscarded (frame : WireFrame)
  /-- CONSOLE_FRAME_DISCARDED (R129, R193): a frame on a console line, judged for CRC, form and kind. -/
  | consoleFrameDiscarded (console : Console) (frame : WireFrame)
  deriving DecidableEq, Repr

end Sys2Proof
end

