-- ==== Sys2Proof/Config.lean ====
section
/-!
DEFINITION. What the spec leaves to the installation or does not give: free values, each an opaque
constant of which nothing can be proved but its type. The assumption log (entries 2 to 4, 62 and 63) names
each.
-/

namespace Sys2Proof.Config

/-- Which link's intake queue is served when several hold frames: R183 lets frames at the fronts of two
queues be taken in either order. Applied to the count of choices taken so far. -/
opaque intakeTurn : Nat → Link

/-- Whether a payload length is one the kind allows, for the kinds whose layout the spec does not give
(R182). -/
opaque lengthAllowed : FrameKind → Nat → Bool

/-- The character a payload byte stands for; the spec names no character code. -/
opaque charOf : Byte → Char

/-- Whether the option byte of a DEMOUNT says that the unload option is set (R186). -/
opaque optionSet : Byte → Bool

/-- Whether the first byte of a CANCEL names its job by request tag (R186). -/
opaque cancelByTag : Byte → Bool

/-! The contents of the management frames whose layout the spec does not give (R188). A frame that carries
items carries at least one: the first, and the rest. -/

opaque addItems : List Byte → AddItem × List AddItem
opaque deleteSerial : List Byte → Code
opaque homeSerial : List Byte → Code
opaque homeValue : List Byte → Home
opaque volumeQuery : List Byte → VolumeQuery
opaque geometryItems : List Byte → GeometryItem × List GeometryItem
opaque driveItems : List Byte → DriveItem × List DriveItem
opaque accountItems : List Byte → AccountItem × List AccountItem
opaque tariffNumber : List Byte → Nat → Nat
opaque routingItems : List Byte → RoutingItem × List RoutingItem
opaque policyItems : List Byte → PolicyItem × List PolicyItem
opaque clockDay : List Byte → BitVec 16
opaque clockSecond : List Byte → BitVec 24
opaque compensation : List Byte → BitVec 8
opaque closeMode : List Byte → CloseMode
opaque closeTimes : List Byte → List Nat
opaque tableIndex : List Byte → Byte
opaque noticeClasses : List Byte → List NoticeClass
opaque noticeItems : List Byte → NoticeItem × List NoticeItem
opaque moveSerial : List Byte → Code
opaque movePriority : List Byte → Byte

/-! What the codes of a completion and the content of a REPLY stand for (R193). -/

opaque completionFaulted : Byte → Bool
opaque handLoaded : Byte → Bool
opaque faultCause : Byte → FaultCause
opaque replyNumber : List Byte → BitVec 16

/-- Byte `i` of a completion whose payload is shorter than the 6 bytes of R193. -/
opaque missingByte : List Byte → Nat → Byte

/-- The position taken from a completion whose payload gives one above 1023 (R193). -/
opaque positionRead : List Byte → BitVec 10

/-! Bytes of a layout to which its rule gives no value, by place. -/

/-- Bytes of a volume entry, by index and place: the rack-column byte of a SHELF home, and the last mount day
where it is absent (R192). -/
opaque entryFill : Nat → Nat → Byte

/-- Bytes of an order, by its number and place: the position of STOP, and the target bytes an order does not
use (R193). -/
opaque orderFill : Nat → Nat → Byte

/-! Numeric codes of names in the layouts of 10.2, 10.6 and 10.7, which the spec lists without numbers. -/

opaque kindByte : FrameKind → Byte
opaque resultByte : Nat → Byte
opaque charByte : Char → Byte
opaque poolByte : Pool → Byte
opaque locationByte : Nat → Byte
opaque recordKindByte : Nat → Byte
opaque mountKindByte : MountKind → Byte
opaque orderByte : Nat → Byte
opaque targetByte : Nat → Byte
opaque promptKindByte : PromptKind → Byte
opaque severityByte : Nat → Byte
opaque intentByte : Intent → Byte

/-! The tag of a forwarded status frame, of which the part reads only what R21 gives, and the tag and payload
of an injected REWIND_UNLOAD (R20, R30). -/

opaque statusTag : Byte
opaque rewindTag : Byte
opaque rewindPayload : List Byte

end Sys2Proof.Config
end

