-- ==== Sys2Proof/Decode.lean ====
section
/-!
DEFINITION. The command a word spells by the table's bits. No row of the opcode table gives bits: a command
is a frame, an event or an expiry, and the frames that the spec lays out byte by byte are read in
Machine/Wire.lean.
-/

namespace Sys2Proof

/-- The command that a word of the table's bits spells: none, for no row of the table has bits. -/
def decodeTableWord (_nbits _w : Nat) : Option Instr := none

end Sys2Proof
end

