-- ==== Sys2Proof/Machine/State.lean ====
section
/-!
DEFINITION. The state of the FK2610 as plain data: one structure for each block of the spec's block
overview, the frames the part has sent, the queue of commands that wait, and the state at power-on.
-/

namespace Sys2Proof.Machine

/-- Why the machine stops. The spec describes no event that stops the part: every command changes the
state, is answered, or is dropped, so this type has no constructor and nothing raises it (safe). -/
inductive Fault where
  deriving DecidableEq, Repr

/-- Why a command has no meaning. -/
inductive Refusal where
  /-- Raised by an arm of `exec` whose command is not modelled yet; safe. No arm raises it. -/
  | notModelled (mnemonic : String)
  deriving DecidableEq, Repr

/-! ### Shared pieces -/

/-- A sparse table: entries by index, in ascending order of index, none twice. An index that is not
listed has no entry. -/
abbrev Table (α : Type) := List (Nat × α)

/-- A timer of the part's own tick (1/64 s). `held` is suspended (R72) or frozen (R123) and keeps its
remaining time. -/
inductive Timer where
  | stopped
  | running (ticks : Nat)
  | held (ticks : Nat)
  deriving DecidableEq, Repr

/-- A stamp of the library clock: day and second of day (R137). -/
structure Stamp where
  day : Nat
  second : Nat
  deriving DecidableEq, Repr

/-- The origin of a job: request link and request tag (R41). -/
structure Origin where
  link : Link
  tag : Nat
  deriving DecidableEq, Repr

/-- A job named with its admission sequence (R44, R68, R109). -/
structure JobRef where
  number : Nat
  sequence : Nat
  deriving DecidableEq, Repr

/-! ### Volume Map -/

/-- Where a reel is (R3). -/
inductive Location where
  | cell
  | drive (d : DriveId)
  | arm (x : ArmId)
  | ring (b : RingBay)
  | hatch (b : HatchBay)
  | shelf
  | uncertain
  deriving DecidableEq, Repr

/-- A valid volume entry (R1). An invalid entry has no meaning and is not listed. -/
structure Volume where
  serial : Code
  home : Home
  location : Location
  pool : Pool
  ring : RingState
  suspect : Bool
  owner : AccountId
  usesLeft : Nat
  mountCount : Nat
  lastMountDay : Option Nat
  deriving DecidableEq, Repr

/-- The Volume Map: the valid volume entries by index 0 to 4095 (R1), and the geometry (R15). A column
position is listed under rack × 16 + column; an unlisted column is UNSET. -/
structure VolumeMap where
  volumes : Table Volume
  columns : Table Nat
  drivePositions : Bank (Option Nat) 16
  ringPositions : Bank (Option Nat) 2
  hatchPositions : Bank (Option Nat) 4
  separation : Nat
  deriving DecidableEq, Repr

/-! ### String Monitor -/

/-- The drive states (R22). -/
inductive DriveState where
  | empty
  | reserved
  | loading
  | occupied
  | unloading
  | awaitingPull
  | cleanDue
  | cleaning
  | service
  deriving DecidableEq, Repr

/-- An open occupancy (R147). -/
structure Occupancy where
  account : AccountId
  mountKind : MountKind
  volume : Option Nat
  origin : Option Origin
  start : Stamp
  recordStart : Stamp
  bandSeconds : Bank Nat 4
  graceLeft : Nat
  feePending : Bool
  blocksRead : Nat
  blocksWritten : Nat
  correctable : Nat
  deriving DecidableEq, Repr

/-- A drive entry (R22). -/
structure Drive where
  configured : Bool
  driveClass : Fin 4
  owningLink : Nat
  autoDemount : Bool
  state : DriveState
  draining : Bool
  job : Option Nat
  occupancy : Option Occupancy
  lastMountKind : Option MountKind
  errorCount : Nat
  threshold : Nat
  mountsSinceClean : Nat
  cleanInterval : Nat
  loadTimer : Timer
  cleaningTimer : Timer
  servicePrompt : Option Nat
  handDemountPrompt : Option Nat
  deriving DecidableEq, Repr

/-! ### Work List -/

/-- The job kinds (R41). -/
inductive JobKind where
  | mount
  | demount
  | clean
  | eject
  | enter
  deriving DecidableEq, Repr

/-- The hold reasons (R53). -/
inductive HoldReason where
  | allowance
  | suspect
  | uncertain
  | waitVolume
  | noScratch
  | noCleaner
  | hatchFull
  | reelCheck
  | armLost
  | wrongReel
  | ringFull
  deriving DecidableEq, Repr

/-- The job states (R42); the hold reason is present exactly while HELD. -/
inductive JobState where
  | held (reason : HoldReason)
  | waiting
  | assigned
  | atRing
  | manual
  | loading
  | unloadWait
  | cleanWait
  deriving DecidableEq, Repr

/-- A motion leg of a job (R43). A HATCH_PUT leg has no bay until one is reserved for it (R96). -/
inductive Leg where
  | fetch (c : Cell)
  | stow (c : Cell)
  | load (d : DriveId)
  | pull (d : DriveId)
  | ringPut (b : RingBay)
  | ringTake (b : RingBay)
  | hatchPut (b : Option HatchBay)
  | hatchTake (b : HatchBay)
  deriving DecidableEq, Repr

/-- How a mount was counted against its account (R41). -/
inductive Counted where
  | none
  | allowance
  | override
  deriving DecidableEq, Repr

/-- Why a reel is on its way out through the hatch, as TAKE_FROM_HATCH names it (R103): the label that
READY read, or the cell a STOW found occupied. -/
inductive Disposal where
  | none
  | wrongReel (label : Code)
  | stowFault (cell : Cell)
  deriving DecidableEq, Repr

/-- A job record (R41). `scratch`, `disposal` and `mounted` are the model's own (assumption log 9). -/
structure Job where
  kind : JobKind
  sequence : Nat
  origin : Option Origin
  drive : Option DriveId
  volume : Option Nat
  serial : Option Code
  /-- MOUNT only. -/
  intent : Intent
  /-- MOUNT only. -/
  mountKind : MountKind
  account : AccountId
  priority : Nat
  effective : Nat
  state : JobState
  legs : List Leg
  leg : Nat
  arm : Option ArmId
  retryUsed : Bool
  counted : Counted
  cancelled : Bool
  returning : Bool
  ringBay : Option RingBay
  hatchBay : Option HatchBay
  prompt : Option Nat
  aging : Timer
  /-- The mount was requested with the scratch choice. -/
  scratch : Bool
  disposal : Disposal
  /-- A READY has opened an occupancy for the job (R65). -/
  mounted : Bool
  deriving DecidableEq, Repr

/-- The kinds of owed creation (R50). -/
inductive OwedKind where
  | demount
  | clean
  | cleanFromPull
  deriving DecidableEq, Repr

/-- The Work List: jobs by number 0 to 47, the admission sequence counter, and the creations owed to
each drive (R41, R50). -/
structure WorkList where
  jobs : Table Job
  nextSequence : Nat
  owed : Bank (Option OwedKind) 16
  deriving DecidableEq, Repr

/-! ### Arm Control -/

/-- The arm states (R69). REHOMING is marked when it follows a RESTORED reply, since the arm condition
depends on it. -/
inductive ArmState where
  | unhomed
  | homing
  | idle
  | moving
  | rehoming (restored : Bool)
  | disabled
  | parked
  deriving DecidableEq, Repr

/-- A hand, EMPTY or LOADED; the hand volume is absent for a reel the map does not place there (R68). -/
inductive Hand where
  | empty
  | loaded (volume : Option Nat)
  deriving DecidableEq, Repr

/-- A motion order other than STOP, with its target (R70). -/
inductive Order where
  | home
  | yieldTo (position : Nat)
  | fetch (c : Cell)
  | stow (c : Cell)
  | load (d : DriveId)
  | pull (d : DriveId)
  | ringPut (b : RingBay)
  | ringTake (b : RingBay)
  | hatchPut (b : HatchBay)
  | hatchTake (b : HatchBay)
  deriving DecidableEq, Repr

/-- The kinds of order, as an error names them (R70, R72, R85). -/
inductive OrderKind where
  | home
  | yieldTo
  | fetch
  | stow
  | load
  | pull
  | ringPut
  | ringTake
  | hatchPut
  | hatchTake
  deriving DecidableEq, Repr

/-- A claim interval, low to high (R76). -/
structure Span where
  low : Nat
  high : Nat
  deriving DecidableEq, Repr

/-- An order in flight (R68). -/
structure InFlight where
  tag : Nat
  order : Order
  deriving DecidableEq, Repr

/-- How an interrupted order ended (R68). -/
inductive Interruption where
  | faulted
  | stopped
  deriving DecidableEq, Repr

/-- An interrupted order (R68). -/
structure Interrupted where
  order : Order
  how : Interruption
  deriving DecidableEq, Repr

/-- An arm record (R68). -/
structure Arm where
  state : ArmState
  position : Option Nat
  lastKnown : Nat
  hand : Hand
  claim : Option Span
  /-- The claim held at the last entry to HOMING, extended to the rail end (R93): the model's own (assumption
  log 66). -/
  heldClaim : Option Span
  inFlight : Option InFlight
  interrupted : Option Interrupted
  nextOrder : Option Order
  supervision : Timer
  lastTimedOut : Option Nat
  job : Option JobRef
  faultPrompt : Option Nat
  /-- The HOME of library homing is still to be sent (R93): the model's own (assumption log 54). -/
  homeDue : Bool
  deriving DecidableEq, Repr

/-- Arm Control: the two arm records and the tag counter (R68). -/
structure ArmControl where
  armA : Arm
  armB : Arm
  tagCounter : Nat
  deriving DecidableEq, Repr

/-! ### Station Control -/

/-- The bay states (R95). -/
inductive BayState where
  | free
  | reserved (job : JobRef)
  | holding (volume : Nat) (job : Option JobRef)
  | unknown
  deriving DecidableEq, Repr

/-- Station Control: two ring bays and four hatch bays (R95). -/
structure Station where
  ring : Bank BayState 2
  hatch : Bank BayState 4
  deriving DecidableEq, Repr

/-! ### Prompt Control -/

/-- The prompt severities (R109). -/
inductive PromptSeverity where
  | action
  | decision
  | information
  deriving DecidableEq, Repr

/-- The reply words (R110, R193). -/
inductive Word where
  | done
  | cancel
  | approve
  | deny
  | retry
  | inCell
  | outside
  | restored
  | parked
  | removed
  | defer
  deriving DecidableEq, Repr

/-- The owner of a prompt (R109). The library owns one CHECK_REEL for each ring bay (R113). -/
inductive Owner where
  | job (j : JobRef)
  | arm (x : ArmId)
  | drive (d : DriveId)
  | hatch (b : HatchBay)
  | library (b : RingBay)
  deriving DecidableEq, Repr

/-- A bay named on a console (R193). -/
inductive BayRef where
  | ring (b : RingBay)
  | hatch (b : HatchBay)
  deriving DecidableEq, Repr

/-- The parameters of a prompt, each optional (R109). -/
structure PromptParams where
  serial : Option Code := none
  label : Option Code := none
  drive : Option DriveId := none
  cell : Option Cell := none
  bay : Option BayRef := none
  arm : Option ArmId := none
  account : Option Code := none
  intent : Option Intent := none
  deriving DecidableEq, Repr

/-- An open prompt (R109). Its kind severity is fixed by its kind; its state PENDING, SHOWN or DEFERRED
follows from the consoles (R115); its posting order is its place in the prompt table. -/
structure Prompt where
  number : Nat
  kind : PromptKind
  severity : PromptSeverity
  owner : Owner
  params : PromptParams
  allowed : List Word
  targets : Targets
  escalated : Bool
  posted : Stamp
  reminders : Nat
  reminderTimer : Timer
  deferTimers : Bank Timer 2
  limitTimer : Timer
  deriving DecidableEq, Repr

/-- A prompt owed because the table was full (R113). -/
structure OwedPrompt where
  owner : Owner
  kind : PromptKind
  params : PromptParams
  removedAllowed : Bool
  deriving DecidableEq, Repr

/-- A console's action area and defer list, by prompt number (R115). The area is a set, kept in posting
order; the top of the defer list comes first. -/
structure ConsoleState where
  area : List Nat
  deferred : List Nat
  deriving DecidableEq, Repr

/-- Prompt Control (R109 to R114). Prompts stand in posting order. -/
structure PromptControl where
  prompts : List Prompt
  nextNumber : Nat
  consoles : Bank ConsoleState 2
  owed : List OwedPrompt
  routing : Bank Targets 15
  deriving DecidableEq, Repr

/-! ### Clock -/

/-- The clock states (R133). -/
inductive ClockState where
  | notSet
  | running
  deriving DecidableEq, Repr

/-- The library clock (R133). -/
structure Clock where
  state : ClockState
  day : Nat
  second : Nat
  tick : Nat
  compensation : Int
  ticksToDrop : Nat
  closeMode : CloseMode
  shiftTimes : List Nat
  deriving DecidableEq, Repr

/-! ### Accounting -/

/-- A tariff copy (R143). The band count is the number of starts; rates are by class and then band. -/
structure Tariff where
  starts : List Nat
  rates : Bank (Bank Nat 4) 4
  fees : Bank Nat 4
  transfers : Bank Nat 4
  grace : Nat
  deriving DecidableEq, Repr

/-- The totals of an account in a period (R151). -/
structure Totals where
  mountsUsed : Nat
  overrides : Nat
  periodCharge : Nat
  chargeSaturated : Bool
  periodSeconds : Nat
  listedCount : Nat
  unlistedCount : Nat
  unlistedCharge : Nat
  deriving DecidableEq, Repr

/-- The contents of a full closed slot (R163). An empty slot is `none` in its account. -/
structure ClosedSlot where
  period : Nat
  stamp : Stamp
  merged : Bool
  totals : Totals
  deriving DecidableEq, Repr

/-- An account entry (R151). -/
structure Account where
  code : Code
  allowance : Nat
  live : Totals
  closed : Option ClosedSlot
  deriving DecidableEq, Repr

/-- The kinds of accounting record (R154). -/
inductive RecordKind where
  | final
  | partialRecord
  | clean
  deriving DecidableEq, Repr

/-- An accounting record (R154). -/
structure Record where
  sequence : Nat
  kind : RecordKind
  period : Nat
  account : AccountId
  code : Code
  drive : DriveId
  volumeSerial : Option Code
  mountKind : MountKind
  origin : Option Origin
  start : Stamp
  finish : Stamp
  bandSeconds : Bank Nat 4
  blocksRead : Nat
  blocksWritten : Nat
  correctable : Nat
  charge : Nat
  saturated : Bool
  deriving DecidableEq, Repr

/-- Accounting: both tariff copies, the account table, the record queue (front first), the record
sequence number and the period number (R143, R151, R155, R156, R164). -/
structure Accounting where
  active : Tariff
  pendingTariff : Option Tariff
  accounts : Bank Account 64
  records : List Record
  recordSequence : Nat
  period : Nat
  deriving DecidableEq, Repr

/-! ### Error Log and Notices -/

/-- The error kinds (R195). -/
inductive ErrorKind where
  | motionTimeout
  | travelBlocked
  | rehomeTimeout
  | armDisabled
  | misgrip
  | noReel
  | cellOccupied
  | driveRefused
  | wrongReel
  | loadTimeout
  | cleanTimeout
  | badCheck
  | badFrame
  | intakeFull
  | unknownCompletion
  | lateCompletion
  | driveThreshold
  | unrequestedReady
  | locationConflict
  deriving DecidableEq, Repr

/-- The error severities (R195). -/
inductive ErrorSeverity where
  | library
  | job
  | link
  | info
  deriving DecidableEq, Repr

/-- The one further value an error entry carries, as its logging rule gives it (R195). Where a rule names
several values that have no field of their own, they are one value here (DESIGN CHOICE, assumption log 64). -/
inductive Detail where
  | cause (c : FaultCause)
  | order (k : OrderKind)
  | orderAt (k : OrderKind) (position : Nat)
  | label (l : Option Code)
  | link (l : Link)
  | linkKind (l : Link) (k : FrameKind)
  | linkKindTag (l : Link) (k : FrameKind) (tag : Nat)
  | console (c : Console)
  | consoleKind (c : Console) (k : FrameKind)
  | robotLink
  | robotLinkKind (k : FrameKind)
  | count (n : Nat)
  | outcome (done : Bool)
  | cell (c : Cell)
  | bay (b : BayRef)
  | handAt (loaded : Bool) (position : Nat)
  deriving DecidableEq, Repr

/-- An error entry (R195). -/
structure ErrorEntry where
  number : Nat
  stamp : Stamp
  kind : ErrorKind
  severity : ErrorSeverity
  arm : Option ArmId
  drive : Option DriveId
  job : Option Nat
  volume : Option Nat
  tag : Option Nat
  detail : Option Detail
  deriving DecidableEq, Repr

/-- The error log (R195). The ring is oldest first; the next-error set is kept in the order of the kinds
above, each at most once. -/
structure ErrorLog where
  ring : List ErrorEntry
  first : Option ErrorEntry
  next : List ErrorKind
  counter : Nat
  deriving DecidableEq, Repr

/-- One notice class (R199). An event class uses neither clear-enable nor level. -/
structure NoticeState where
  raiseEnable : Bool
  clearEnable : Bool
  pending : Bool
  level : Bool
  deriving DecidableEq, Repr

/-- Notices: the classes in the order of `NoticeClass`, the notice link and clear-on-read (R199, R201). -/
structure Notices where
  classes : Bank NoticeState 7
  link : Link
  clearOnRead : Bool
  deriving DecidableEq, Repr

/-- The reset cause flags (R180). -/
structure ResetCauses where
  power : Bool
  line : Bool
  frame : Bool
  deriving DecidableEq, Repr

/-! ### Mode Control -/

/-- A mode that may stand beneath SAFE or be a homing target (R169). -/
inductive Governed where
  | run
  | quiescing
  | quiesced
  deriving DecidableEq, Repr

/-- The library mode; the mode beneath is present exactly in SAFE and the homing target exactly in
HOMING (R169). -/
inductive Mode where
  | configure
  | homing (target : Governed)
  | run
  | quiescing
  | quiesced
  | safe (beneath : Governed)
  deriving DecidableEq, Repr

/-- Mode Control (R169). -/
structure ModeControl where
  mode : Mode
  quiesceForced : Bool
  door : DoorState
  deriving DecidableEq, Repr

/-! ### Link Intake and policy -/

/-- A library frame in an intake queue, a completed train counting as one (R183). -/
structure IntakeFrame where
  kind : FrameKind
  tag : Nat
  payload : List Byte
  deriving DecidableEq, Repr

/-- A partial train (R182): parts taken so far and the payload they carried. -/
structure PartialTrain where
  kind : FrameKind
  tag : Nat
  total : Nat
  taken : Nat
  payload : List Byte
  deriving DecidableEq, Repr

/-- The intake of one request link (R182 to R184). -/
structure LinkState where
  queue : List IntakeFrame
  train : Option PartialTrain
  permitted : Bool
  deriving DecidableEq, Repr

/-- The policy settings (R190, R131). -/
structure Policy where
  supervision : Nat
  loadTimeout : Nat
  aging : Nat
  reminder : Nat
  escalationCount : Nat
  decision : Nat
  information : Nat
  deferral : Nat
  approveDefault : ApproveDefault
  highWater : Nat
  deriving DecidableEq, Repr

/-! ### Frames the part sends -/

/-- Why an item of a frame is refused (R185). -/
inductive Reason where
  | badField
  | serialPresent
  | homeInUse
  | columnUnset
  | mapFull
  | outOfRail
  | driveBusy
  | notAscending
  | codePresent
  | accountBusy
  | belowUsed
  | lastLink
  | armsTooClose
  deriving DecidableEq, Repr

/-- What an item of an accepted or rejected frame is told: the index given, the value set, nothing, or
its position (from 1) and the reason it was refused. -/
inductive ItemReport where
  | index (i : Nat)
  | value (v : PolicyItem)
  | refused (position : Nat) (reason : Reason)
  deriving DecidableEq, Repr

/-- The item of a tariff that LOAD_TARIFF refuses (R144). -/
inductive TariffItem where
  | bandCount
  | start (band : Nat)
  | rate (driveClass band : Nat)
  | fee (kind : MountKind)
  deriving DecidableEq, Repr

/-- The first item that fails the START validation (R17, R172). -/
inductive StartItem where
  | drivePosition (d : DriveId)
  | ringPosition (b : RingBay)
  | hatchPosition (b : HatchBay)
  | columnPosition (rack column : Nat)
  | driveSpacing (i j : DriveId)
  | noDrive
  | driveLink (d : DriveId)
  deriving DecidableEq, Repr

/-- A volume entry as read (R14, R192). -/
structure VolumeRead where
  index : Nat
  volume : Volume
  job : Option Nat
  deriving DecidableEq, Repr

/-- The READ_ACCOUNT snapshot (R153). -/
structure AccountRead where
  code : Code
  allowance : Nat
  live : Totals
  slotFull : Bool
  period : Nat
  deriving DecidableEq, Repr

/-- The READ_CLOCK snapshot (R137): every field of the clock but the ticks to drop. -/
structure ClockRead where
  state : ClockState
  day : Nat
  second : Nat
  tick : Nat
  compensation : Int
  closeMode : CloseMode
  shiftTimes : List Nat
  deriving DecidableEq, Repr

/-- The READ_ERRORS snapshot (R197). -/
structure ErrorsRead where
  first : Option ErrorEntry
  next : List ErrorKind
  counter : Nat
  count : Nat
  entries : List ErrorEntry
  deriving DecidableEq, Repr

/-- The READ_STATUS snapshot (R189). -/
structure StatusRead where
  mode : Mode
  quiesceForced : Bool
  door : DoorState
  causes : ResetCauses
  clock : ClockState
  pendingTariff : Bool
  period : Nat
  armA : ArmState
  armB : ArmState
  jobs : Nat
  prompts : Nat
  owedPrompts : Nat
  records : Nat
  recordsHigh : Bool
  drives : List (DriveState × Bool × Bool)
  deriving DecidableEq, Repr

/-- Result codes with the data each carries (R185). -/
inductive Result where
  | accepted
  | acceptedJob (job : Nat)
  | acceptedItems (items : List ItemReport)
  | acceptedActive
  | acceptedPending
  | acceptedCompensation (value : Int)
  | acceptedTime (day second : Nat)
  | clock (snapshot : ClockRead)
  | volume (entry : VolumeRead)
  | records (records : List Record) (left : Nat)
  | closedSlot (slot : ClosedSlot)
  | account (entry : AccountRead)
  | errors (snapshot : ErrorsRead)
  | notices (snapshot : Notices)
  | status (snapshot : StatusRead)
  | badFrame
  | busy
  | notPermitted
  | wrongMode
  | badRequest
  | badDrive
  | driveUnavailable
  | driveBusy
  | listFull
  | volumeInUse
  | volumeInUseByJob (job : Nat)
  | volumeInUseAt (location : Location)
  | nothingMounted
  | noSuchJob
  | tooLate
  | noSuchVolume
  | notInLibrary
  | locationUnknown
  | homeIsShelf
  | alreadyHome
  | tableReject (items : List ItemReport)
  | tableRejectReason (reason : Reason)
  | tableRejectTariff (item : TariffItem) (reason : Reason)
  | startReject (item : StartItem)
  | notRunning
  | endOfMap
  | emptySlot
  deriving DecidableEq, Repr

/-- Reasons of MOUNT_FAILED (R66). -/
inductive MountFailure where
  | allowance | suspect | uncertain | reelCheck | volumeInUse | wrongReel | driveTaken | notReady
  | loadTimeout | driveOccupied | driveRefused | operatorCancel
  deriving DecidableEq, Repr

/-- Reasons of MOVE_FAILED (R66). -/
inductive MoveFailure where
  | notInLibrary | uncertain | reelCheck | volumeInUse | operatorCancel | armLost
  deriving DecidableEq, Repr

/-- Lifecycle frames (R66). -/
inductive Lifecycle where
  | mountComplete (fileProtected : Bool)
  | mountFailed (reason : MountFailure)
  | demountComplete
  | demountFailedReelCheck
  | moveComplete
  | moveFailed (reason : MoveFailure)
  | cancelled
  deriving DecidableEq, Repr

/-- The cause carried by LIBRARY_RESET (R179). -/
inductive ResetCause where
  | line
  | frame
  deriving DecidableEq, Repr

/-- The data of a NOTICE frame (R199); `edge` is true for RAISE. -/
inductive NoticeData where
  | armState (raised : Bool) (a b : ArmState)
  | driveService (raised : Bool) (drives : List DriveId)
  | recordsHigh (raised : Bool) (records : Nat)
  | periodClosed (period : Nat)
  | errorLogged (number : Nat) (kind : ErrorKind)
  | promptEscalated (number : Nat) (kind : PromptKind)
  | modeChange (mode : Mode) (door : DoorState)
  deriving DecidableEq, Repr

/-- A drive status frame forwarded up a request link (R20). -/
inductive DriveFrame where
  | ready (writeEnabled : Bool) (label : Option Code)
  | unloaded
  | check (code : CheckCode)
  | usage (blocksRead blocksWritten correctable : Nat)
  | other (frame : WireFrame)
  deriving DecidableEq, Repr

/-- A frame sent on a request link (R185). -/
inductive LinkFrame where
  | response (tag : Nat) (kind : FrameKind) (result : Result)
  | lifecycle (tag : Nat) (frame : Lifecycle) (job : Nat) (drive : Option DriveId) (serial : Option Code)
  | mountPending (tag : Nat) (drive : DriveId)
  | libraryReset (cause : ResetCause) (mode : Mode)
  | notice (data : NoticeData)
  | status (drive : DriveId) (frame : DriveFrame)
  deriving DecidableEq, Repr

/-- A frame sent down the drive string (R19, R30). -/
inductive StringFrame where
  | command (frame : WireFrame)
  | rewindUnload (drive : DriveId)
  deriving DecidableEq, Repr

/-- A frame sent on the robot link (R70, R193). -/
inductive RobotFrame where
  | order (arm : ArmId) (tag : Nat) (order : Order) (position : Option Nat)
  | stop
  deriving DecidableEq, Repr

/-- Why a console is sent REMOVE (6.8). -/
inductive RemoveReason where
  | answered
  | withdrawn
  | expired
  | displaced
  deriving DecidableEq, Repr

/-- Results of a REPLY or RECALL (R118, R119, R124). -/
inductive ReplyResult where
  | accepted
  | noSuchPrompt
  | notShownHere
  | notAllowed
  | listFull
  | nothingDeferred
  | areaFull
  deriving DecidableEq, Repr

/-- What a SHOW frame carries (R116, R193). -/
structure Shown where
  number : Nat
  kind : PromptKind
  severity : PromptSeverity
  escalated : Bool
  reminders : Nat
  allowed : List Word
  posted : Stamp
  params : PromptParams
  deriving DecidableEq, Repr

/-- A frame sent on a console line (6.8). -/
inductive ConsoleFrame where
  | showPrompt (shown : Shown)
  | remind (number : Nat) (count : Nat)
  | remove (number : Nat) (reason : RemoveReason)
  | clearAll
  | replyResult (number : Option Nat) (result : ReplyResult)
  deriving DecidableEq, Repr

/-- A frame the part has sent, with its connection. -/
inductive Sent where
  | link (l : Link) (frame : LinkFrame)
  | string (frame : StringFrame)
  | robot (frame : RobotFrame)
  | console (c : Console) (frame : ConsoleFrame)
  deriving DecidableEq, Repr

/-! ### The whole state -/

/-- The state of the part. `sent` lists the frames sent since power-on, oldest first, `choices` counts
the free choices taken, and `pending` is the queue of commands that wait: these three are the model's
own (assumption log 1, 4, 5). -/
structure State where
  intake : Bank LinkState 4
  map : VolumeMap
  drives : Bank Drive 16
  work : WorkList
  arms : ArmControl
  station : Station
  desk : PromptControl
  clock : Clock
  accounting : Accounting
  errors : ErrorLog
  notices : Notices
  causes : ResetCauses
  control : ModeControl
  policy : Policy
  sent : List Sent
  choices : Nat
  pending : List Instr
  deriving DecidableEq, Repr

/-! ### Power-on values -/

/-- An entry of the drive table at power-on (R22). -/
def Drive.powerOn : Drive :=
  { configured := false, driveClass := 0, owningLink := 0, autoDemount := false, state := .empty
    draining := false, job := none, occupancy := none, lastMountKind := none, errorCount := 0
    threshold := 16, mountsSinceClean := 0, cleanInterval := 0, loadTimer := .stopped
    cleaningTimer := .stopped, servicePrompt := none, handDemountPrompt := none }

/-- An arm record at power-on, with the arm's rail end (R68). -/
def Arm.powerOn (railEnd : Nat) : Arm :=
  { state := .unhomed, position := none, lastKnown := railEnd, hand := .empty, claim := none
    inFlight := none, interrupted := none, nextOrder := none, supervision := .stopped
    lastTimedOut := none, job := none, faultPrompt := none, homeDue := false, heldClaim := none }

/-- Live totals all zero (R164, R168). -/
def Totals.zero : Totals :=
  { mountsUsed := 0, overrides := 0, periodCharge := 0, chargeSaturated := false, periodSeconds := 0
    listedCount := 0, unlistedCount := 0, unlistedCharge := 0 }

/-- An unused account entry (R168). -/
def Account.powerOn : Account :=
  { code := blankCode, allowance := 0, live := Totals.zero, closed := none }

/-- The active tariff at power-on: one band and no charges (R143). -/
def Tariff.powerOn : Tariff :=
  { starts := [0], rates := Bank.replicate 4 (Bank.replicate 4 0), fees := Bank.replicate 4 0
    transfers := Bank.replicate 4 0, grace := 0 }

/-- The state right after power-on (R18, R22, R67, R68, R108, R132, R133, R168, R169, R194, R195,
R201), with nothing sent and no command waiting. The door state follows the door sense line, which the
spec does not fix at power-on: CLOSED here (DESIGN CHOICE, unsafe, assumption log 8); the command
POWER_ON takes it from its operand. -/
def State.reset : State :=
  { intake := (Bank.replicate 4 { queue := [], train := none, permitted := false }).set 0
      { queue := [], train := none, permitted := true }
    map :=
      { volumes := [], columns := [], drivePositions := Bank.replicate 16 none
        ringPositions := Bank.replicate 2 none, hatchPositions := Bank.replicate 4 none
        separation := 24 }
    drives := Bank.replicate 16 Drive.powerOn
    work := { jobs := [], nextSequence := 0, owed := Bank.replicate 16 none }
    arms := { armA := Arm.powerOn 0, armB := Arm.powerOn 1023, tagCounter := 0 }
    station := { ring := Bank.replicate 2 .free, hatch := Bank.replicate 4 .free }
    desk :=
      { prompts := [], nextNumber := 1, consoles := Bank.replicate 2 { area := [], deferred := [] }
        owed := [], routing := Bank.replicate 15 { console0 := true, console1 := true } }
    clock :=
      { state := .notSet, day := 0, second := 0, tick := 0, compensation := 0, ticksToDrop := 0
        closeMode := .manual, shiftTimes := [] }
    accounting :=
      { active := Tariff.powerOn, pendingTariff := none, accounts := Bank.replicate 64 Account.powerOn
        records := [], recordSequence := 0, period := 0 }
    errors := { ring := [], first := none, next := [], counter := 0 }
    notices :=
      { classes := Bank.replicate 7
          { raiseEnable := false, clearEnable := false, pending := false, level := false }
        link := 0, clearOnRead := true }
    causes := { power := true, line := false, frame := false }
    control := { mode := .configure, quiesceForced := false, door := .closed }
    policy :=
      { supervision := 4, loadTimeout := 3, aging := 5, reminder := 2, escalationCount := 3
        decision := 3, information := 4, deferral := 4, approveDefault := .deny, highWater := 12 }
    sent := []
    choices := 0
    pending := [] }

end Sys2Proof.Machine
end

