-- ==== Sys2Proof/Machine/Codes.lean ====
section
/-!
DEFINITION. The free values of the frames sent and of a REPLY: contents whose layout the spec does not give,
each an opaque constant of which nothing can be proved but its type (assumption log 3).
-/

namespace Sys2Proof.Config

open Machine

/-- The reply word of a REPLY payload, absent for a word that is no reply word (R124). -/
opaque replyWord : List Byte → Option Word

/-- The data that a result carries after the kind and the code, where the spec gives no layout (R185). -/
opaque resultData : Result → List Byte

/-- The data of the first frame of a READ_ERRORS train (R197). -/
opaque errorsHead : ErrorsRead → List Byte

/-- The content of a frame of a READ_ERRORS train that carries these entries (R197). -/
opaque errorEntries : List ErrorEntry → List Byte

/-- The data of the first frame of a READ_RECORDS train: the records returned and the number left (R188). -/
opaque recordsHead : (returned left : Nat) → List Byte

/-- The content of a MOUNT_PENDING frame, which names its drive (R19). -/
opaque pendingData : DriveId → List Byte

/-- The content of a lifecycle frame: its job, drive and serial, and what else it carries (R66). -/
opaque lifecycleData : Lifecycle → (job : Nat) → Option DriveId → Option Code → List Byte

/-- The content of a LIBRARY_RESET frame (R179). -/
opaque resetData : ResetCause → Mode → List Byte

/-- The content of a NOTICE frame (R199). -/
opaque noticeData : NoticeData → List Byte

/-- The content of a forwarded status frame that the part reads (R21). -/
opaque statusData : DriveFrame → List Byte

/-- The content of a console frame other than SHOW (6.8). -/
opaque consoleData : ConsoleFrame → List Byte

end Sys2Proof.Config
end

