-- ==== Sys2Proof/Machine/Operands.lean ====
section
/-!
DEFINITION. How the operands of frames are judged and clamped: codes, cells, positions and settings.
-/

namespace Sys2Proof.Machine

/-- A character A–Z or 0–9. -/
def codeChar (c : Char) : Bool :=
  (65 ≤ c.toNat && c.toNat ≤ 90) || (48 ≤ c.toNat && c.toNat ≤ 57)

/-- Six characters A–Z, 0–9 and trailing blanks (R11, R45, R152). All blanks passes. -/
def codeGood (c : Code) : Bool := c.length = 6 && (c.dropWhile codeChar).all (· = ' ')

/-- A well-formed serial: as `codeGood`, and not all blanks (R45, check 2). -/
def serialGood (c : Code) : Bool := codeGood c && c ≠ blankCode

/-- No part of the cell address is above 15 (R11). -/
def cellGood (c : Cell) : Bool := c.rack ≤ 15 && c.column ≤ 15 && c.level ≤ 15

/-- A home that is SHELF, or a cell with no part above 15 (R11, R13). -/
def homeGood : Home → Bool
  | .cell c => cellGood c
  | .shelf => true

/-- The index under which a rack column's position is kept. -/
def columnIndex (rack column : Nat) : Nat := rack * 16 + column

/-- A value clamped to a range: the nearest value inside it. -/
def clamp (low high n : Nat) : Nat := max low (min high n)

/-- An increase that saturates: the counter stays at its maximum when it would pass it. -/
def saturate (limit n : Nat) : Nat := min limit n

/-- A number in 0 to `n - 1`, as a `Fin`, when it is in range. -/
def inRange (n : Nat) (i : Nat) : Option (Fin n) := if h : i < n then some ⟨i, h⟩ else none

/-- The reports of a frame's items: ACCEPTED when none is refused, otherwise TABLE_REJECT. -/
def anyRefused (reports : List ItemReport) : Bool :=
  reports.any fun r => match r with
    | .refused _ _ => true
    | _ => false

/-- Takes the items of a frame in frame order, each on the state the items before it have left, and
gathers their reports; `position` numbers the items from 1. -/
def takeItems {ι : Type} (take : Nat → ι → State → State × Option ItemReport) :
    (position : Nat) → List ι → State → State × List ItemReport
  | _, [], s => (s, [])
  | position, i :: rest, s =>
    let (s₁, r) := take position i s
    let (s₂, rs) := takeItems take (position + 1) rest s₁
    (s₂, r.toList ++ rs)

/-- The second of day of a stamp's minute, for ROUND_CLOCK (R139). -/
def minuteStart (second : Nat) : Nat := second / 60 * 60

/-- The place of a mount kind in the order ROBOT, RING, MANUAL, FOREIGN (R143). -/
def mountKindIndex : MountKind → Fin 4
  | .robot => 0
  | .ring => 1
  | .manual => 2
  | .foreign => 3

/-- The place of a prompt kind in the table of R110. -/
def promptKindIndex : PromptKind → Fin 15
  | .mountByHand => 0
  | .demountByHand => 1
  | .fitRing => 2
  | .removeRing => 3
  | .approveMount => 4
  | .checkReel => 5
  | .verifyVolume => 6
  | .armFault => 7
  | .takeFromHatch => 8
  | .placeInHatch => 9
  | .driveService => 10
  | .wrongReel => 11
  | .needScratch => 12
  | .needCleaner => 13
  | .foreignReel => 14

/-- The place of a notice class in the table of R199. -/
def noticeIndex : NoticeClass → Fin 7
  | .armState => 0
  | .driveService => 1
  | .recordsHigh => 2
  | .periodClosed => 3
  | .errorLogged => 4
  | .promptEscalated => 5
  | .modeChange => 6

/-- The condition classes of R199; the others are event classes. -/
def isConditionClass : NoticeClass → Bool
  | .armState | .driveService | .recordsHigh => true
  | .periodClosed | .errorLogged | .promptEscalated | .modeChange => false

/-- The kind severity of a prompt kind (R110). -/
def kindSeverity : PromptKind → PromptSeverity
  | .approveMount => .decision
  | .needScratch | .needCleaner | .foreignReel => .information
  | _ => .action

/-- The replies a kind allows, beside DEFER (R110); REMOVED is allowed when ARM_FAULT is posted with the
hand LOADED. -/
def kindReplies (k : PromptKind) (removedAllowed : Bool) : List Word :=
  match k with
  | .mountByHand | .fitRing | .placeInHatch => [.done, .cancel]
  | .demountByHand | .removeRing | .takeFromHatch | .driveService | .wrongReel | .needScratch
  | .needCleaner | .foreignReel => [.done]
  | .approveMount => [.approve, .deny]
  | .checkReel => [.retry, .cancel]
  | .verifyVolume => [.inCell, .outside, .cancel]
  | .armFault => if removedAllowed then [.restored, .parked, .removed] else [.restored, .parked]

/-- The rank of a severity: ACTION above DECISION above INFORMATION (R115). -/
def severityRank : PromptSeverity → Nat
  | .action => 2
  | .decision => 1
  | .information => 0

end Sys2Proof.Machine
end

