-- ==== Sys2Proof/Machine/Tables.lean ====
section
/-!
DEFINITION. The operations of the sparse tables that hold volumes, jobs and column positions.
-/

namespace Sys2Proof.Machine

variable {α : Type}

/-- The entry at index `i`, if one is listed. -/
def Table.get? : Table α → Nat → Option α
  | [], _ => none
  | (k, x) :: rest, i => if k = i then some x else Table.get? rest i

/-- The table with entry `i` set to `x`, keeping ascending order. -/
def Table.put : Table α → Nat → α → Table α
  | [], i, x => [(i, x)]
  | (k, y) :: rest, i, x =>
    if i = k then (i, x) :: rest
    else if i < k then (i, x) :: (k, y) :: rest
    else (k, y) :: Table.put rest i x

/-- The table with entry `i` no longer listed. -/
def Table.erase (t : Table α) (i : Nat) : Table α := t.filter fun e => e.1 ≠ i

/-- The table with entry `i`, if listed, changed by `f`. -/
def Table.modify (t : Table α) (i : Nat) (f : α → α) : Table α :=
  match t.get? i with
  | some x => t.put i (f x)
  | none => t

/-- Every index is below the bound and larger than the ones before it. -/
def Table.wfFrom (limit : Nat) : Nat → Table α → Bool
  | _, [] => true
  | low, (k, _) :: rest => decide (low ≤ k) && decide (k < limit) && Table.wfFrom limit (k + 1) rest

/-- The canonical form: indices below `limit`, strictly ascending. -/
def Table.wf (limit : Nat) (t : Table α) : Bool := Table.wfFrom limit 0 t

/-- The lowest index at or above `i` with no entry, looking at `fuel` indices. -/
def Table.firstFreeFrom (t : Table α) : (fuel : Nat) → (i : Nat) → Option Nat
  | 0, _ => none
  | fuel + 1, i => if (t.get? i).isNone then some i else Table.firstFreeFrom t fuel (i + 1)

/-- The lowest index below `limit` with no entry. -/
def Table.firstFree (t : Table α) (limit : Nat) : Option Nat := t.firstFreeFrom limit 0

/-- The first listed entry, in index order, that satisfies `p`, with its index. -/
def Table.find (t : Table α) (p : Nat → α → Bool) : Option (Nat × α) := t.find? fun e => p e.1 e.2

end Sys2Proof.Machine
end

