-- ==== Sys2Proof/Machine/Ops.lean ====
section
/-!
DEFINITION. The named operations over the pieces of State: frames sent, the clock's stamp, timers and
intervals, and reading and writing an arm, a drive, a job, a bay, a volume or an account.
-/

namespace Sys2Proof.Machine

/-! ### Frames sent -/

/-- Sends a frame: it joins the frames sent, after the ones before it. -/
def State.emit (f : Sent) (s : State) : State := { s with sent := s.sent ++ [f] }

/-- Answers a library frame taken from a link (R185). -/
def State.respond (l : Link) (tag : Nat) (kind : FrameKind) (r : Result) (s : State) : State :=
  s.emit (.link l (.response tag kind r))

/-! ### Stamps and intervals -/

/-- The library clock's day and second of day as they stand (R137). -/
def State.stamp (s : State) : Stamp := { day := s.clock.day, second := s.clock.second }

/-- Ticks of the part in a number of seconds: one tick is 1/64 s. -/
def secondsToTicks (n : Nat) : Nat := 64 * n

/-- The supervision interval of an order, twice that for a HOME (R72). -/
def Policy.supervisionTicks (p : Policy) (home : Bool) : Nat :=
  secondsToTicks (2 ^ p.supervision * 2 * if home then 2 else 1)

/-- The load timeout (R26). -/
def Policy.loadTicks (p : Policy) : Nat := secondsToTicks (2 ^ p.loadTimeout * 4)

/-- The cleaning timeout, eight times the load timeout (R37). -/
def Policy.cleaningTicks (p : Policy) : Nat := 8 * p.loadTicks

/-- The aging interval (R59). -/
def Policy.agingTicks (p : Policy) : Nat := secondsToTicks (2 ^ p.aging * 15)

/-- The reminder interval (R121). -/
def Policy.reminderTicks (p : Policy) : Nat := secondsToTicks (2 ^ p.reminder * 15)

/-- The defer limit (R131). -/
def Policy.deferTicks (p : Policy) : Nat := secondsToTicks (2 ^ p.deferral * 60)

/-- The limit timer of a kind severity; ACTION kinds have none (R123). -/
def Policy.limitTimer (p : Policy) : PromptSeverity → Timer
  | .action => .stopped
  | .decision => .running (secondsToTicks (2 ^ p.decision * 60))
  | .information => .running (secondsToTicks (2 ^ p.information * 60))

/-- The record-queue high-water mark (R160). -/
def Policy.mark (p : Policy) : Nat := p.highWater * 16

/-- A timer that is running. -/
def Timer.isRunning : Timer → Bool
  | .running _ => true
  | _ => false

/-- A running timer suspended or frozen, keeping its remaining time (R72, R123). -/
def Timer.hold : Timer → Timer
  | .running n => .held n
  | t => t

/-- A suspended or frozen timer running on from the time it held. -/
def Timer.resume : Timer → Timer
  | .held n => .running n
  | t => t

/-- A timer after `n` ticks of the part; a running timer that has reached 0 is due. -/
def Timer.lower (n : Nat) : Timer → Timer
  | .running k => .running (k - n)
  | t => t

/-! ### Arms -/

/-- The other arm. -/
def otherArm : ArmId → ArmId
  | .a => .b
  | .b => .a

/-- An arm's record. -/
def State.arm (s : State) : ArmId → Arm
  | .a => s.arms.armA
  | .b => s.arms.armB

/-- The state with an arm's record replaced. -/
def State.setArm (x : ArmId) (r : Arm) (s : State) : State :=
  match x with
  | .a => { s with arms := { s.arms with armA := r } }
  | .b => { s with arms := { s.arms with armB := r } }

/-- The state with an arm's record changed by `f`. -/
def State.updateArm (x : ArmId) (f : Arm → Arm) (s : State) : State := s.setArm x (f (s.arm x))

/-! ### Drives -/

/-- A drive's entry. -/
def State.drive (s : State) (d : DriveId) : Drive := s.drives.get d

/-- The state with a drive's entry changed by `f`. -/
def State.updateDrive (d : DriveId) (f : Drive → Drive) (s : State) : State :=
  { s with drives := s.drives.update d f }

/-! ### Jobs -/

/-- The job with this number, if the entry is not free. -/
def State.job? (s : State) (n : Nat) : Option Job := s.work.jobs.get? n

/-- The state with a job's record changed by `f`; a free entry stays free. -/
def State.updateJob (n : Nat) (f : Job → Job) (s : State) : State :=
  { s with work := { s.work with jobs := s.work.jobs.modify n f } }

/-- The reference to a job under its number. -/
def Job.ref (j : Job) (n : Nat) : JobRef := { number := n, sequence := j.sequence }

/-- The job a reference names, when the entry still holds a job of that admission sequence (R44). -/
def State.liveJob (s : State) (r : JobRef) : Option Job :=
  match s.job? r.number with
  | some j => if j.sequence = r.sequence then some j else none
  | none => none

/-- The job numbers on the work list, ascending. -/
def State.jobNumbers (s : State) : List Nat := s.work.jobs.map Prod.fst

/-- The job reported as naming a volume. The spec does not say which when two name it, one taking it home
and others HELD WAIT_VOLUME: the lowest-numbered (DESIGN CHOICE, assumption log 47). -/
def State.jobNaming (s : State) (v : Nat) : Option Nat :=
  (s.work.jobs.find fun _ j => j.volume = some v).map Prod.fst

/-- The job of an arm, with its number, when it is still on the list. -/
def State.armJob (s : State) (x : ArmId) : Option (Nat × Job) :=
  match (s.arm x).job with
  | some r => (s.liveJob r).map fun j => (r.number, j)
  | none => none

/-! ### Bays -/

/-- The state with a ring bay's state replaced. -/
def State.setRing (b : RingBay) (t : BayState) (s : State) : State :=
  { s with station := { s.station with ring := s.station.ring.set b t } }

/-- The state with a hatch bay's state replaced. -/
def State.setHatch (b : HatchBay) (t : BayState) (s : State) : State :=
  { s with station := { s.station with hatch := s.station.hatch.set b t } }

/-! ### Volumes -/

/-- The valid entry at a volume index. -/
def State.volume? (s : State) (v : Nat) : Option Volume := s.map.volumes.get? v

/-- The state with a volume's entry changed by `f`; an invalid entry is not changed (R4). -/
def State.updateVolume (v : Nat) (f : Volume → Volume) (s : State) : State :=
  { s with map := { s.map with volumes := s.map.volumes.modify v f } }

/-! ### Accounts -/

/-- The state with an account entry changed by `f`. -/
def State.updateAccount (a : AccountId) (f : Account → Account) (s : State) : State :=
  { s with accounting := { s.accounting with accounts := s.accounting.accounts.update a f } }

/-- The state with an account's live totals changed by `f`. -/
def State.updateLive (a : AccountId) (f : Totals → Totals) (s : State) : State :=
  s.updateAccount a fun e => { e with live := f e.live }

/-! ### The mode -/

/-- The governing mode: the mode itself, the mode beneath in SAFE, the homing target in HOMING; absent in
CONFIGURE (R169). -/
def Mode.governing : Mode → Option Governed
  | .configure => none
  | .homing t | .safe t => some t
  | .run => some .run
  | .quiescing => some .quiescing
  | .quiesced => some .quiesced

/-- The mode that a governed mode is when nothing stands over it. -/
def Governed.mode : Governed → Mode
  | .run => .run
  | .quiescing => .quiescing
  | .quiesced => .quiesced

/-- The mode itself, without its mode beneath or homing target, as a number; used to tell whether the
mode itself changes (R170). -/
def Mode.itself : Mode → Nat
  | .configure => 0
  | .homing _ => 1
  | .run => 2
  | .quiescing => 3
  | .quiesced => 4
  | .safe _ => 5

/-- The mode is SAFE. -/
def Mode.isSafe : Mode → Bool
  | .safe _ => true
  | _ => false

/-- The mode is HOMING. -/
def Mode.isHoming : Mode → Bool
  | .homing _ => true
  | _ => false

/-- Orders of runs and YIELDs are sent in RUN and QUIESCING (R71). -/
def Mode.sendsRuns : Mode → Bool
  | .run | .quiescing => true
  | _ => false

/-- The modes in which LOAD_GEOMETRY and LOAD_DRIVES are taken (R16, R23). -/
def Mode.takesLoads : Mode → Bool
  | .configure | .quiesced | .safe .quiesced => true
  | _ => false

/-- The library mode. -/
def State.mode (s : State) : Mode := s.control.mode

/-- The String Monitor reads the frames of a drive: outside CONFIGURE, for a configured drive (R21). -/
def State.reads (s : State) (d : DriveId) : Bool :=
  s.mode ≠ .configure && (s.drive d).configured

end Sys2Proof.Machine
end

