-- ==== Sys2Proof/Machine/Flags.lean ====
section
/-!
DEFINITION. Notices and the error log: the pending flags, levels and enables of the seven classes, the
conditions that raise and clear them, and the logging of an error (R36, R69, R160, R196, R199).
-/

namespace Sys2Proof.Machine

/-! ### Notices (R199) -/

/-- A notice class's flags. -/
def State.notice (s : State) (c : NoticeClass) : NoticeState := s.notices.classes.get (noticeIndex c)

/-- The state with a notice class's flags changed by `f`. -/
def State.updateNotice (c : NoticeClass) (f : NoticeState → NoticeState) (s : State) : State :=
  { s with notices := { s.notices with classes := s.notices.classes.update (noticeIndex c) f } }

/-- Sends a NOTICE frame on the notice link and sets the class's pending flag (R199). -/
def State.sendNotice (c : NoticeClass) (data : NoticeData) (s : State) : State :=
  (s.emit (.link s.notices.link (.notice data))).updateNotice c fun n => { n with pending := true }

/-- An event of an event class: it sends a NOTICE while its raise-enable is set (R199). -/
def State.raiseEvent (c : NoticeClass) (data : NoticeData) (s : State) : State :=
  if (s.notice c).raiseEnable then s.sendNotice c data else s

/-- A condition class's level becomes `level`. A change is an edge, which sends a NOTICE when it is
enabled (R199). -/
def State.setLevel (c : NoticeClass) (level : Bool) (data : NoticeData) (s : State) : State :=
  let n := s.notice c
  if n.level = level then s
  else
    let s := s.updateNotice c fun n => { n with level := level }
    if (if level then n.raiseEnable else n.clearEnable) then s.sendNotice c data else s

/-! ### The conditions -/

/-- The arm condition: DISABLED, PARKED, or REHOMING after a RESTORED reply (R69). -/
def ArmState.outOfService : ArmState → Bool
  | .disabled | .parked | .rehoming true => true
  | _ => false

/-- The value of the ARM_STATE condition (R69). -/
def State.armCondition (s : State) : Bool :=
  s.arms.armA.state.outOfService || s.arms.armB.state.outOfService

/-- Evaluates ARM_STATE again (R69). -/
def State.evalArmState (s : State) : State :=
  s.setLevel .armState s.armCondition
    (.armState s.armCondition s.arms.armA.state s.arms.armB.state)

/-- The drive service condition of a drive: configured, and draining or in SERVICE (R36). -/
def Drive.inService (e : Drive) : Bool := e.configured && (e.draining || e.state = .service)

/-- The drives whose service condition is true, ascending. -/
def State.drivesInService (s : State) : List DriveId := allDrives.filter fun d => (s.drive d).inService

/-- The value of the DRIVE_SERVICE condition (R36). -/
def State.driveCondition (s : State) : Bool := !s.drivesInService.isEmpty

/-- Evaluates DRIVE_SERVICE again (R36). -/
def State.evalDriveService (s : State) : State :=
  s.setLevel .driveService s.driveCondition (.driveService s.driveCondition s.drivesInService)

/-- The record-queue-high condition (R160). -/
def State.recordsHigh (s : State) : Bool := s.policy.mark ≤ s.accounting.records.length

/-- Evaluates RECORDS_HIGH again (R160). -/
def State.evalRecordsHigh (s : State) : State :=
  s.setLevel .recordsHigh s.recordsHigh (.recordsHigh s.recordsHigh s.accounting.records.length)

/-! ### The error log (R196) -/

/-- The error kinds in the order of R195's table. -/
def allErrorKinds : List ErrorKind :=
  [.motionTimeout, .travelBlocked, .rehomeTimeout, .armDisabled, .misgrip, .noReel, .cellOccupied,
    .driveRefused, .wrongReel, .loadTimeout, .cleanTimeout, .badCheck, .badFrame, .intakeFull,
    .unknownCompletion, .lateCompletion, .driveThreshold, .unrequestedReady, .locationConflict]

/-- What a logging block gives with an error (R195). -/
structure ErrorFields where
  arm : Option ArmId := none
  drive : Option DriveId := none
  job : Option Nat := none
  volume : Option Nat := none
  tag : Option Nat := none
  detail : Option Detail := none

/-- The entry formed for an error (R196, step 1). -/
def State.errorEntry (kind : ErrorKind) (severity : ErrorSeverity) (f : ErrorFields) (s : State) :
    ErrorEntry :=
  { number := s.errors.counter, stamp := s.stamp, kind := kind, severity := severity, arm := f.arm
    drive := f.drive, job := f.job, volume := f.volume, tag := f.tag, detail := f.detail }

/-- The error log after an entry is recorded (R196, steps 1 to 3). -/
def ErrorLog.record (e : ErrorEntry) (log : ErrorLog) : ErrorLog :=
  { ring := (if log.ring.length < 16 then log.ring else log.ring.drop 1) ++ [e]
    first := if log.first.isSome then log.first else some e
    next :=
      if log.first.isSome then allErrorKinds.filter fun k => log.next.contains k || k = e.kind
      else log.next
    counter := (log.counter + 1) % 65536 }

/-- Logs an error: it is numbered, stamped, kept, and raises ERROR_LOGGED (R196). -/
def State.logError (kind : ErrorKind) (severity : ErrorSeverity) (f : ErrorFields) (s : State) :
    State :=
  let e := s.errorEntry kind severity f
  { s with errors := s.errors.record e }.raiseEvent .errorLogged (.errorLogged e.number kind)

end Sys2Proof.Machine
end

