-- ==== Sys2Proof/Machine/Volumes.lean ====
section
/-!
DEFINITION. The Volume Map's operations: finding and moving volumes, candidates, positions and the
geometry checks of START (R1 to R18).
-/

namespace Sys2Proof.Machine

/-! ### Finding volumes -/

/-- The valid entry with this serial (R1). -/
def State.findSerial (s : State) (serial : Code) : Option Nat :=
  (s.map.volumes.find fun _ v => v.serial = serial).map Prod.fst

/-- The valid entry whose home is this cell (R2). -/
def State.homedAt (s : State) (c : Cell) : Option Nat :=
  (s.map.volumes.find fun _ v => v.home = .cell c).map Prod.fst

/-- The volume recorded at a location; at a holder there is at most one (R2). -/
def State.locatedAt (s : State) (l : Location) : Option Nat :=
  (s.map.volumes.find fun _ v => v.location = l).map Prod.fst

/-- The serial of a volume. -/
def State.serialOf (s : State) (v : Nat) : Option Code := (s.volume? v).map Volume.serial

/-- The home cell of a volume, when its home is a cell. -/
def State.homeCell (s : State) (v : Nat) : Option Cell :=
  match s.volume? v with
  | some e => match e.home with
    | .cell c => some c
    | .shelf => none
  | none => none

/-- A drive, an arm's hand, a ring bay or a hatch bay (R2). -/
def Location.isHolder : Location → Bool
  | .drive _ | .arm _ | .ring _ | .hatch _ => true
  | .cell | .shelf | .uncertain => false

/-! ### Moving volumes (R4, R5) -/

/-- The fields that name a volume and its holder in an error entry (R5). -/
def holderFields (v : Nat) (l : Location) : ErrorFields :=
  match l with
  | .drive d => { volume := some v, drive := some d }
  | .arm x => { volume := some v, arm := some x }
  | .ring b => { volume := some v, detail := some (.bay (.ring b)) }
  | .hatch b => { volume := some v, detail := some (.bay (.hatch b)) }
  | .cell | .shelf | .uncertain => { volume := some v }

/-- Another volume recorded at a holder becomes UNCERTAIN and LOCATION_CONFLICT is logged (R5). -/
def State.displaceFrom (v : Nat) (l : Location) (s : State) : State :=
  if l.isHolder then
    match s.map.volumes.find fun u e => u ≠ v && e.location = l with
    | some (u, _) =>
      (s.updateVolume u fun e => { e with location := .uncertain }).logError .locationConflict .info
        (holderFields u l)
    | none => s
  else s

/-- A volume moves to a location (R4); one whose entry is not valid changes nothing. -/
def State.moveVolume (v : Nat) (l : Location) (s : State) : State :=
  match s.volume? v with
  | some _ => (s.displaceFrom v l).updateVolume v fun e => { e with location := l }
  | none => s

/-- What an occupancy start changes in the volume's entry: ring, mount count and last mount day
(R6, R7). -/
def State.startUse (v : Nat) (writeEnabled : Bool) (s : State) : State :=
  s.updateVolume v fun e =>
    { e with
      ring := if writeEnabled then .ringIn else .ringOut
      mountCount := saturate 65535 (e.mountCount + 1)
      lastMountDay := some s.clock.day }

/-! ### Candidates (R8, R9) -/

/-- A volume satisfies every condition of a candidate of its pool: SCRATCH (R8) or CLEAN (R9). -/
def State.qualifies (s : State) (pool : Pool) (v : Nat) : Bool :=
  match s.volume? v with
  | some e =>
    e.pool = pool && pool ≠ .privatePool && e.location = .cell && !e.suspect &&
      (pool ≠ .cleanPool || 1 ≤ e.usesLeft) && (s.jobNaming v).isNone
  | none => false

/-- The candidate of a pool: the lowest-indexed entry that qualifies, or NONE. -/
def State.candidate (s : State) (pool : Pool) : Option Nat :=
  (s.map.volumes.find fun v _ => s.qualifies pool v).map Prod.fst

/-! ### Positions (R15) -/

/-- The position of a cell's rack column. -/
def State.cellPosition (s : State) (c : Cell) : Option Nat :=
  s.map.columns.get? (columnIndex c.rack c.column)

/-- The rail end of an arm (R68). -/
def railEnd : ArmId → Nat
  | .a => 0
  | .b => 1023

/-- The position of an order's target, sent by an arm (R15, R70). -/
def State.orderPosition (s : State) (x : ArmId) : Order → Option Nat
  | .home => some (railEnd x)
  | .yieldTo p => some p
  | .fetch c | .stow c => s.cellPosition c
  | .load d | .pull d => s.map.drivePositions.get d
  | .ringPut b | .ringTake b => s.map.ringPositions.get b
  | .hatchPut b | .hatchTake b => s.map.hatchPositions.get b

/-- The order a leg is, once its bay is known. -/
def Leg.order : Leg → Option Order
  | .fetch c => some (.fetch c)
  | .stow c => some (.stow c)
  | .load d => some (.load d)
  | .pull d => some (.pull d)
  | .ringPut b => some (.ringPut b)
  | .ringTake b => some (.ringTake b)
  | .hatchPut (some b) => some (.hatchPut b)
  | .hatchPut none => none
  | .hatchTake b => some (.hatchTake b)

/-- The position of a leg's target. -/
def State.legPosition (s : State) (x : ArmId) (g : Leg) : Option Nat :=
  match g.order with
  | some o => s.orderPosition x o
  | none => none

/-! ### The geometry checks of START (R17) -/

/-- The difference of two positions. -/
def distance (p q : Nat) : Nat := (p - q) + (q - p)

/-- The configured drives, ascending. -/
def State.configuredDrives (s : State) : List DriveId := allDrives.filter fun d => (s.drive d).configured

/-- Check 4: the first rack column, in ascending order, that is a home column and is UNSET. -/
def State.unsetHomeColumn (s : State) : Option Nat :=
  (List.range 256).find? fun i =>
    (s.map.columns.get? i).isNone &&
      s.map.volumes.any fun e => match e.2.home with
        | .cell c => columnIndex c.rack c.column = i
        | .shelf => false

/-- Check 5: the first pair of configured drives whose positions differ by less than the separation. -/
def State.closeDrives (s : State) : Option (DriveId × DriveId) :=
  let ds := s.configuredDrives
  let pairs := ds.flatMap fun i => (ds.filter fun j => decide (i < j)).map fun j => (i, j)
  pairs.find? fun p =>
    match s.map.drivePositions.get p.1, s.map.drivePositions.get p.2 with
    | some a, some b => decide (distance a b < s.map.separation)
    | _, _ => false

/-- The first geometry item that fails, or none for PASS (R17). -/
def State.geometryFailure (s : State) : Option StartItem :=
  ((s.configuredDrives.find? fun d => (s.map.drivePositions.get d).isNone).map StartItem.drivePosition)
    <|> ((allRingBays.find? fun b => (s.map.ringPositions.get b).isNone).map StartItem.ringPosition)
    <|> ((allHatchBays.find? fun b => (s.map.hatchPositions.get b).isNone).map StartItem.hatchPosition)
    <|> (s.unsetHomeColumn.map fun i => StartItem.columnPosition (i / 16) (i % 16))
    <|> (s.closeDrives.map fun p => StartItem.driveSpacing p.1 p.2)

/-- The first item that fails START's validation, or none (R172). -/
def State.startFailure (s : State) : Option StartItem :=
  s.geometryFailure
    <|> (if s.configuredDrives.isEmpty then some .noDrive else none)
    <|> ((s.configuredDrives.find? fun d => decide (3 < (s.drive d).owningLink)).map StartItem.driveLink)

/-! ### The map after a warm reset (R18) -/

/-- A volume's location after a warm reset; `loading` tells the drives that were LOADING. -/
def resetLocation (loading : DriveId → Bool) : Location → Location
  | .arm _ | .ring _ => .uncertain
  | .drive d => if loading d then .uncertain else .drive d
  | l => l

end Sys2Proof.Machine
end

