-- ==== Sys2Proof/Machine/Accounts.lean ====
section
/-!
DEFINITION. Usage Accounting: accrual, the charge of a record, records and their queue, allowances and
the account part of a period close (R143 to R165).
-/

namespace Sys2Proof.Machine

/-! ### Naming an account (R151) -/

/-- The account a code names: the entry 1 to 63 that holds it, or index 0 (R151). -/
def State.accountOf (s : State) (code : Code) : AccountId :=
  if code = blankCode then 0
  else
    match (List.finRange 64).find? fun (i : AccountId) =>
        i ≠ 0 && (s.accounting.accounts.get i).code = code with
    | some i => i
    | none => 0

/-- The code of an account entry. -/
def State.accountCode (s : State) (a : AccountId) : Code := (s.accounting.accounts.get a).code

/-! ### Saturating totals -/

/-- The largest value of a 24-bit counter. -/
def max24 : Nat := 16777215

/-- The largest value of a 32-bit counter. -/
def max32 : Nat := 4294967295

/-- The largest value of a 16-bit counter. -/
def max16 : Nat := 65535

/-! ### Bands and accrual (R143, R148) -/

/-- The number of the last start, counting from `i`, that is at or below a second of day. -/
def bandFrom (second : Nat) : (i : Nat) → (found : Nat) → List Nat → Nat
  | _, found, [] => found
  | i, found, start :: rest => bandFrom second (i + 1) (if start ≤ second then i else found) rest

/-- The band of a second of day: the highest-numbered band whose start is at or below it (R143). -/
def Tariff.band (t : Tariff) (second : Nat) : Nat := bandFrom second 0 0 t.starts

/-- One more counted second in a band (R148). -/
def countSecond (bands : Bank Nat 4) (band : Nat) : Bank Nat 4 :=
  match inRange 4 band with
  | some i => bands.update i fun n => saturate max24 (n + 1)
  | none => bands

/-- An open occupancy at a second event: a grace second, or a second in a band (R148). -/
def Occupancy.accrue (o : Occupancy) (band : Nat) : Occupancy :=
  if 0 < o.graceLeft then { o with graceLeft := o.graceLeft - 1 }
  else { o with bandSeconds := countSecond o.bandSeconds band }

/-- The accrual of one drive at a second event (R148). -/
def State.accrueDrive (second : Nat) (s : State) (d : DriveId) : State :=
  match (s.drive d).occupancy with
  | some o =>
    (s.updateDrive d fun e => { e with occupancy := some (o.accrue (s.accounting.active.band second)) })
      |>.updateLive o.account fun t => { t with periodSeconds := saturate max32 (t.periodSeconds + 1) }
  | none => s

/-- The accrual of a second event, with the second of day before the advance (R148). -/
def State.accrue (second : Nat) (s : State) : State := allDrives.foldl (State.accrueDrive second) s

/-! ### Opening an occupancy (R147) -/

/-- The occupancy that a READY opens, stamped with the clock (R147). -/
def State.newOccupancy (s : State) (account : AccountId) (kind : MountKind) (volume : Option Nat)
    (origin : Option Origin) : Occupancy :=
  { account := account, mountKind := kind, volume := volume, origin := origin, start := s.stamp
    recordStart := s.stamp, bandSeconds := Bank.replicate 4 0, graceLeft := s.accounting.active.grace
    feePending := true, blocksRead := 0, blocksWritten := 0, correctable := 0 }

/-! ### The charge (R150) -/

/-- Band minutes: a part minute counts as a whole one (R150, stage 1). -/
def bandMinutes (seconds : Nat) : Nat := (seconds + 59) / 60

/-- The time charge: the sum over the bands of minutes times the rate (R150, stage 2). -/
def timeCharge (rates bands : Bank Nat 4) : Nat :=
  (List.zipWith (fun seconds rate => bandMinutes seconds * rate) bands.items rates.items).sum

/-- The transfer charge of a FINAL record (R150, stage 3). -/
def transferCharge (rate blocks : Nat) : Nat := (blocks + 999) / 1000 * rate

/-- The exact total of a record, before saturation (R150, stages 1 to 5). -/
def exactCharge (t : Tariff) (driveClass : Fin 4) (o : Occupancy) (final : Bool) : Nat :=
  (if o.feePending then t.fees.get (mountKindIndex o.mountKind) else 0) +
    timeCharge (t.rates.get driveClass) o.bandSeconds +
    (if final then transferCharge (t.transfers.get driveClass) (o.blocksRead + o.blocksWritten) else 0)

/-! ### Records (R154 to R158) -/

/-- Places a computed record: its sequence number is consumed; it joins the queue, or is counted
unlisted when the queue is full; the high condition is evaluated after a placing; the period charge
rises by the charge (R155, R156, R157). -/
def State.placeRecord (r : Record) (s : State) : State :=
  let s := { s with accounting :=
    { s.accounting with recordSequence := (s.accounting.recordSequence + 1) % (max32 + 1) } }
  let s :=
    if s.accounting.records.length < 256 then
      ({ s with accounting := { s.accounting with records := s.accounting.records ++ [r] } }
        |>.updateLive r.account fun t => { t with listedCount := saturate max32 (t.listedCount + 1) })
        |>.evalRecordsHigh
    else
      s.updateLive r.account fun t =>
        { t with
          unlistedCount := saturate max32 (t.unlistedCount + 1)
          unlistedCharge := saturate max32 (t.unlistedCharge + r.charge) }
  s.updateLive r.account fun t =>
    { t with
      periodCharge := saturate max32 (t.periodCharge + r.charge)
      chargeSaturated := t.chargeSaturated || decide (max32 < t.periodCharge + r.charge) }

/-- The record of an occupancy at a drive (R149, R150, R154, R163). A PARTIAL record carries no block
or error counts. The serial is the one the map holds under the occupancy's volume index when the record is
computed (DESIGN CHOICE, assumption log 70). -/
def State.occupancyRecord (s : State) (d : DriveId) (o : Occupancy) (final : Bool) : Record :=
  let total := exactCharge s.accounting.active (s.drive d).driveClass o final
  { sequence := s.accounting.recordSequence
    kind := if final then .final else .partialRecord
    period := s.accounting.period
    account := o.account
    code := s.accountCode o.account
    drive := d
    volumeSerial := o.volume.bind s.serialOf
    mountKind := o.mountKind
    origin := o.origin
    start := o.recordStart
    finish := s.stamp
    bandSeconds := o.bandSeconds
    blocksRead := if final then o.blocksRead else 0
    blocksWritten := if final then o.blocksWritten else 0
    correctable := if final then o.correctable else 0
    charge := saturate max24 total
    saturated := decide (max24 < total) }

/-- The close of a drive's occupancy: its FINAL record is computed and placed, and the occupancy field
becomes none (R31, R149). -/
def State.closeOccupancy (d : DriveId) (s : State) : State :=
  match (s.drive d).occupancy with
  | some o =>
    (s.placeRecord (s.occupancyRecord d o true)).updateDrive d fun e => { e with occupancy := none }
  | none => s

/-- The CLEAN record of a cleaning that has completed (R158). -/
def State.cleanRecord (s : State) (d : DriveId) (cleaner : Option Nat) : Record :=
  { sequence := s.accounting.recordSequence, kind := .clean, period := s.accounting.period
    account := 0, code := blankCode, drive := d, volumeSerial := cleaner.bind s.serialOf
    mountKind := .robot, origin := none, start := s.stamp, finish := s.stamp
    bandSeconds := Bank.replicate 4 0, blocksRead := 0, blocksWritten := 0, correctable := 0
    charge := 0, saturated := false }

/-! ### Allowances (R161, R162) -/

/-- The allowance check passes: no limit, or fewer mounts used than the allowance (R161). -/
def State.allowancePasses (s : State) (a : AccountId) : Bool :=
  let e := s.accounting.accounts.get a
  e.allowance = 0 || e.live.mountsUsed < e.allowance

/-- Counts a mount against its account (R161). -/
def State.countMount (a : AccountId) (s : State) : State :=
  s.updateLive a fun t => { t with mountsUsed := saturate max16 (t.mountsUsed + 1) }

/-- Counts an override (R162). -/
def State.countOverride (a : AccountId) (s : State) : State :=
  s.updateLive a fun t => { t with overrides := saturate max16 (t.overrides + 1) }

/-- Returns the count of a cancelled mount; neither counter goes below 0 (R162). -/
def State.returnCount (a : AccountId) (c : Counted) (s : State) : State :=
  match c with
  | .none => s
  | .allowance => s.updateLive a fun t => { t with mountsUsed := t.mountsUsed - 1 }
  | .override => s.updateLive a fun t => { t with overrides := t.overrides - 1 }

/-! ### The account part of a period close (R163, R164) -/

/-- The PARTIAL record of one drive at a close (R163, steps 1 to 3). -/
def State.closePartial (s : State) (d : DriveId) : State :=
  match (s.drive d).occupancy with
  | some o =>
    let o' := { o with
      feePending := false, bandSeconds := Bank.replicate 4 0, recordStart := s.stamp }
    (s.placeRecord (s.occupancyRecord d o false)).updateDrive d fun e => { e with occupancy := some o' }
  | none => s

/-- The sums of two totals, each saturating at its field's maximum (R163). -/
def Totals.add (a b : Totals) : Totals :=
  { mountsUsed := saturate max16 (a.mountsUsed + b.mountsUsed)
    overrides := saturate max16 (a.overrides + b.overrides)
    periodCharge := saturate max32 (a.periodCharge + b.periodCharge)
    chargeSaturated :=
      a.chargeSaturated || b.chargeSaturated || decide (max32 < a.periodCharge + b.periodCharge)
    periodSeconds := saturate max32 (a.periodSeconds + b.periodSeconds)
    listedCount := saturate max32 (a.listedCount + b.listedCount)
    unlistedCount := saturate max32 (a.unlistedCount + b.unlistedCount)
    unlistedCharge := saturate max32 (a.unlistedCharge + b.unlistedCharge) }

/-- An entry's closed slot and live totals after a close: moved into an empty slot, or added into a full
one, and the live totals zeroed (R163, R164). -/
def Account.close (period : Nat) (stamp : Stamp) (e : Account) : Account :=
  { e with
    live := Totals.zero
    closed := some
      (match e.closed with
        | none => { period := period, stamp := stamp, merged := false, totals := e.live }
        | some c => { period := period, stamp := stamp, merged := true, totals := c.totals.add e.live }) }

/-- A close up to and including PERIOD_CLOSED: PARTIAL records, closed slots, the period number, the
tariff swap and the event (R163, R164, steps 1 to 4). -/
def State.closeAccounts (s : State) : State :=
  let s := allDrives.foldl State.closePartial s
  let closing := s.accounting.period
  let stamp := s.stamp
  let s := { s with accounting := { s.accounting with
    accounts := s.accounting.accounts.map (Account.close closing stamp)
    period := (closing + 1) % (max32 + 1)
    active := s.accounting.pendingTariff.getD s.accounting.active
    pendingTariff := none } }
  s.raiseEvent .periodClosed (.periodClosed closing)

end Sys2Proof.Machine
end

