-- ==== Sys2Proof/Machine/Prompts.lean ====
section
/-!
DEFINITION. Prompt Control: posting, showing, displacing, closing and withdrawing prompts, and judging
replies (R109 to R128).
-/

namespace Sys2Proof.Machine

/-! ### Reading the table and the consoles -/

/-- The open prompt with a number. -/
def State.prompt? (s : State) (n : Nat) : Option Prompt := s.desk.prompts.find? fun p => p.number = n

/-- A console's action area and defer list. -/
def State.console (s : State) (c : Console) : ConsoleState := s.desk.consoles.get c

/-- A console is in a set of targets. -/
def targetsInclude (t : Targets) (c : Console) : Bool := if c = 0 then t.console0 else t.console1

/-- The states of a prompt (R115). -/
inductive PromptPosition where
  | pending
  | shown
  | deferred
  deriving DecidableEq, Repr

/-- The state of a prompt, from its positions on the consoles (R115). -/
def State.promptPosition (s : State) (n : Nat) : PromptPosition :=
  if allConsoles.any fun c => (s.console c).area.contains n then .shown
  else if allConsoles.any fun c => (s.console c).deferred.contains n then .deferred
  else .pending

/-- A prompt waits for a console: it is targeted there and in neither of its lists (R115). -/
def State.waitsFor (s : State) (c : Console) (p : Prompt) : Bool :=
  targetsInclude p.targets c && !(s.console c).area.contains p.number &&
    !(s.console c).deferred.contains p.number

/-- The highest-ranked of some prompts given in posting order (R115). -/
def bestPrompt : List Prompt → Option Prompt
  | [] => none
  | p :: rest =>
    match bestPrompt rest with
    | some q => if severityRank p.severity < severityRank q.severity then some q else some p
    | none => some p

/-- The lowest-ranked of some prompts given in posting order (R115). -/
def worstPrompt : List Prompt → Option Prompt
  | [] => none
  | p :: rest =>
    match worstPrompt rest with
    | some q => if severityRank p.severity < severityRank q.severity then some p else some q
    | none => some p

/-- The prompts in a console's area, in posting order. -/
def State.areaPrompts (s : State) (c : Console) : List Prompt :=
  s.desk.prompts.filter fun p => (s.console c).area.contains p.number

/-! ### Small updates -/

/-- The state with an open prompt changed by `f`. -/
def State.updatePrompt (n : Nat) (f : Prompt → Prompt) (s : State) : State :=
  { s with desk := { s.desk with
      prompts := s.desk.prompts.map fun p => if p.number = n then f p else p } }

/-- The state with a console's lists changed by `f`. -/
def State.updateConsole (c : Console) (f : ConsoleState → ConsoleState) (s : State) : State :=
  { s with desk := { s.desk with consoles := s.desk.consoles.update c f } }

/-- Sends a frame to a console. -/
def State.tellConsole (c : Console) (f : ConsoleFrame) (s : State) : State := s.emit (.console c f)

/-- What a SHOW frame of a prompt carries (R116). Its allowed replies are those of the prompt and DEFER, which
R110 allows on every kind and R193 gives a bit (DEDUCED, assumption log 56). -/
def Prompt.shown (p : Prompt) : Shown :=
  { number := p.number, kind := p.kind, severity := p.severity, escalated := p.escalated
    reminders := p.reminders, allowed := p.allowed ++ [.defer], posted := p.posted, params := p.params }

/-- Sends SHOW of an open prompt to a console. -/
def State.sendShow (c : Console) (n : Nat) (s : State) : State :=
  match s.prompt? n with
  | some p => s.tellConsole c (.showPrompt p.shown)
  | none => s

/-- The reminder and limit timers after a prompt's state may have changed from `before`: the reminder
timer runs while SHOWN, afresh from each time it becomes SHOWN (R121), and the limit timer is frozen while
DEFERRED (R123). -/
def State.retime (n : Nat) (before : PromptPosition) (s : State) : State :=
  let after := s.promptPosition n
  s.updatePrompt n fun p =>
    { p with
      reminderTimer :=
        if after ≠ .shown then .stopped
        else if before = .shown then p.reminderTimer
        else .running s.policy.reminderTicks
      limitTimer := if after = .deferred then p.limitTimer.hold else p.limitTimer.resume }

/-! ### Entering and leaving an action area -/

/-- A prompt enters a console's area and is sent in a SHOW frame (R116). The area keeps posting order. -/
def State.enterArea (c : Console) (n : Nat) (s : State) : State :=
  let before := s.promptPosition n
  let numbers := s.desk.prompts.map Prompt.number
  let s := s.updateConsole c fun k =>
    { k with area := numbers.filter fun m => k.area.contains m || m = n }
  (s.retime n before).sendShow c n

/-- The lowest-ranked prompt leaves a full area for a higher one: REMOVE with DISPLACED (R117). -/
def State.displace (c : Console) (n : Nat) (s : State) : State :=
  let before := s.promptPosition n
  let s := s.updateConsole c fun k => { k with area := k.area.filter fun m => m ≠ n }
  (s.retime n before).tellConsole c (.remove n .displaced)

/-- One step of settling an area: a waiting prompt enters where there is room, or displaces a prompt of
strictly lower severity; none when the area is settled (R116). -/
def State.settleStep (c : Console) (s : State) : Option State :=
  match bestPrompt (s.desk.prompts.filter fun p => s.waitsFor c p) with
  | none => none
  | some w =>
    if (s.console c).area.length < 4 then some (s.enterArea c w.number)
    else
      match worstPrompt (s.areaPrompts c) with
      | some l =>
        if severityRank l.severity < severityRank w.severity then
          some ((s.displace c l.number).enterArea c w.number)
        else none
      | none => none

/-- Settles a console's area, in at most `fuel` steps. -/
def State.settleWith (c : Console) : (fuel : Nat) → State → State
  | 0, s => s
  | fuel + 1, s =>
    match s.settleStep c with
    | some s' => State.settleWith c fuel s'
    | none => s

/-- Settles a console's area (R116). Each displacement raises the severities in the area, which holds
four, so settling ends within the 32 steps allowed. -/
def State.settle (c : Console) (s : State) : State := s.settleWith c 32

/-- Settles both areas. -/
def State.settleBoth (s : State) : State := (s.settle 0).settle 1

/-! ### Posting (R111 to R113) -/

/-- The number the next posted prompt takes: the counter's value, or the first after it that is not the
number of an open prompt (R111). -/
def State.freeNumberFrom (s : State) : (fuel : Nat) → (n : Nat) → Nat
  | 0, n => n
  | fuel + 1, n =>
    if (s.prompt? n).isSome then s.freeNumberFrom fuel (n % 9999 + 1) else n

/-- The owner records the number of a prompt it has posted (R112). -/
def State.recordPrompt (o : Owner) (k : PromptKind) (n : Nat) (s : State) : State :=
  match o with
  | .job r => if (s.liveJob r).isSome then s.updateJob r.number fun j => { j with prompt := some n } else s
  | .arm x => s.updateArm x fun a => { a with faultPrompt := some n }
  | .drive d =>
    match k with
    | .driveService => s.updateDrive d fun e => { e with servicePrompt := some n }
    | .demountByHand => s.updateDrive d fun e => { e with handDemountPrompt := some n }
    | _ => s
  | .hatch _ | .library _ => s

/-- Fills a free entry of the prompt table and settles the areas (R112). -/
def State.postNow (q : OwedPrompt) (s : State) : State :=
  let n := s.freeNumberFrom 33 s.desk.nextNumber
  let severity := kindSeverity q.kind
  let p : Prompt :=
    { number := n, kind := q.kind, severity := severity, owner := q.owner, params := q.params
      allowed := kindReplies q.kind q.removedAllowed
      targets := s.desk.routing.get (promptKindIndex q.kind)
      escalated := false, posted := s.stamp, reminders := 0, reminderTimer := .stopped
      deferTimers := Bank.replicate 2 .stopped, limitTimer := s.policy.limitTimer severity }
  let s := { s with desk := { s.desk with
    prompts := s.desk.prompts ++ [p], nextNumber := n % 9999 + 1 } }
  (s.recordPrompt q.owner q.kind n).settleBoth

/-- Where an owed prompt stands in the order of posting (R113): jobs by admission sequence, arms, drives
with DEMOUNT_BY_HAND, DRIVE_SERVICE, FOREIGN_REEL, hatch bays, the library. -/
def OwedPrompt.rank (q : OwedPrompt) : Nat × Nat :=
  match q.owner with
  | .job r => (0, r.sequence)
  | .arm .a => (1, 0)
  | .arm .b => (1, 1)
  | .drive d =>
    (2, 3 * d.val + match q.kind with | .demountByHand => 0 | .driveService => 1 | _ => 2)
  | .hatch b => (3, b.val)
  | .library b => (4, b.val)

/-- One owed prompt goes before another. -/
def OwedPrompt.before (p q : OwedPrompt) : Bool :=
  decide (p.rank.1 < q.rank.1) || (decide (p.rank.1 = q.rank.1) && decide (p.rank.2 < q.rank.2))

/-- The owed prompt to be posted first. -/
def firstOwed : List OwedPrompt → Option OwedPrompt
  | [] => none
  | p :: rest =>
    match firstOwed rest with
    | some q => if q.before p then some q else some p
    | none => some p

/-- Posts owed prompts while entries are free (R113), at most `fuel` of them. -/
def State.postOwedWith : (fuel : Nat) → State → State
  | 0, s => s
  | fuel + 1, s =>
    if s.desk.prompts.length < 32 then
      match firstOwed s.desk.owed with
      | some q =>
        let s := { s with desk := { s.desk with owed := s.desk.owed.filter fun p => p ≠ q } }
        State.postOwedWith fuel (s.postNow q)
      | none => s
    else s

/-- Posts owed prompts while entries are free (R113). -/
def State.postOwed (s : State) : State := s.postOwedWith 32

/-! ### Closing (R125, R127) -/

/-- A console is sent REMOVE when its area or defer list holds the prompt (R125, step 1). -/
def State.sendRemove (n : Nat) (why : RemoveReason) (s : State) (c : Console) : State :=
  if (s.console c).area.contains n || (s.console c).deferred.contains n then
    s.tellConsole c (.remove n why)
  else s

/-- Closes a prompt (R125): REMOVE to the consoles that hold it, out of every list, its entry freed,
owed prompts posted, the areas settled. -/
def State.closePrompt (n : Nat) (why : RemoveReason) (s : State) : State :=
  let s := allConsoles.foldl (State.sendRemove n why) s
  let out := fun (k : ConsoleState) =>
    { area := k.area.filter fun m => m ≠ n, deferred := k.deferred.filter fun m => m ≠ n : ConsoleState }
  let s := { s with desk := { s.desk with
    prompts := s.desk.prompts.filter fun p => p.number ≠ n
    consoles := s.desk.consoles.map out } }
  s.postOwed.settleBoth

/-- An owner withdraws the prompt of a number: it closes WITHDRAWN when it is open and the owner's, and
otherwise nothing changes (R127). -/
def State.withdraw (o : Owner) (n : Nat) (s : State) : State :=
  match s.prompt? n with
  | some p => if p.owner = o then s.closePrompt n .withdrawn else s
  | none => s

/-- An owner's owed prompts that satisfy `k` are dropped from the owed set (R127). -/
def State.dropOwed (o : Owner) (k : PromptKind → Bool) (s : State) : State :=
  { s with desk := { s.desk with owed := s.desk.owed.filter fun q => !(q.owner = o && k q.kind) } }

/-- A prompt of this owner and kind is owed. -/
def State.isOwed (s : State) (o : Owner) (k : PromptKind) : Bool :=
  s.desk.owed.any fun q => q.owner = o && q.kind = k

/-- Withdraws a job's open prompt, if any, and drops an owed one of a kind that `k` holds of. -/
def State.withdrawJobPrompt (n : Nat) (k : PromptKind → Bool) (s : State) : State :=
  match s.job? n with
  | some j =>
    let s := match j.prompt with
      | some p => (s.updateJob n fun j => { j with prompt := none }).withdraw (.job (j.ref n)) p
      | none => s
    s.dropOwed (.job (j.ref n)) k
  | none => s

/-- An owner posts a prompt (R112, R113). A job first has its open prompt withdrawn (R109). With the
table full the prompt is owed, and replaces one of the same owner and kind. -/
def State.post (o : Owner) (k : PromptKind) (params : PromptParams) (removedAllowed : Bool)
    (s : State) : State :=
  let s := match o with
    | .job r => if (s.liveJob r).isSome then s.withdrawJobPrompt r.number fun m => m ≠ k else s
    | _ => s
  let q : OwedPrompt := { owner := o, kind := k, params := params, removedAllowed := removedAllowed }
  if s.desk.prompts.length < 32 then s.postNow q
  else
    { s with desk := { s.desk with
      owed := (s.desk.owed.filter fun p => !(p.owner = o && p.kind = k)) ++ [q] } }

/-- A job posts a prompt. -/
def State.postForJob (n : Nat) (k : PromptKind) (params : PromptParams) (s : State) : State :=
  match s.job? n with
  | some j => s.post (.job (j.ref n)) k params false
  | none => s

/-! ### Judging a reply (R124) -/

/-- The result of a REPLY whose word `good` holds of for the prompt it names, ACCEPTED when every check
passes (R124). -/
def State.judgeWord (c : Console) (n : Nat) (good : Prompt → Bool) (s : State) : ReplyResult :=
  match s.prompt? n with
  | none => .noSuchPrompt
  | some p =>
    if !(s.console c).area.contains n then .notShownHere
    else if good p then .accepted
    else .notAllowed

/-- The result of a REPLY with a reply word (R124). -/
def State.judgeReply (c : Console) (n : Nat) (w : Word) (s : State) : ReplyResult :=
  s.judgeWord c n fun p => w = .defer || p.allowed.contains w

/-- Sends the one REPLY_RESULT of a REPLY (R124). -/
def State.replyResult (c : Console) (n : Nat) (r : ReplyResult) (s : State) : State :=
  s.tellConsole c (.replyResult (some n) r)

/-- An accepted reply closes the prompt ANSWERED, after the REPLY_RESULT (R125, R126). -/
def State.answer (c : Console) (n : Nat) (s : State) : State :=
  (s.replyResult c n .accepted).closePrompt n .answered

end Sys2Proof.Machine
end

