-- ==== Sys2Proof/Machine/Arms.lean ====
section
/-!
DEFINITION. Arm Control's own operations: claims, the sending and keeping of orders, yields, giving an
arm back and disabling it (R68 to R79, R87).
-/

namespace Sys2Proof.Machine

/-! ### Orders and legs -/

/-- The takes (R70). -/
def Order.isTake : Order → Bool
  | .fetch _ | .pull _ | .ringTake _ | .hatchTake _ => true
  | _ => false

/-- The puts (R70). -/
def Order.isPut : Order → Bool
  | .stow _ | .load _ | .ringPut _ | .hatchPut _ => true
  | _ => false

/-- The order is a YIELD. -/
def Order.isYield : Order → Bool
  | .yieldTo _ => true
  | _ => false

/-- The kind of an order. -/
def Order.kind : Order → OrderKind
  | .home => .home
  | .yieldTo _ => .yieldTo
  | .fetch _ => .fetch
  | .stow _ => .stow
  | .load _ => .load
  | .pull _ => .pull
  | .ringPut _ => .ringPut
  | .ringTake _ => .ringTake
  | .hatchPut _ => .hatchPut
  | .hatchTake _ => .hatchTake

/-- A leg that puts a reel down; a run ends with one (R43). -/
def Leg.isPut : Leg → Bool
  | .stow _ | .load _ | .ringPut _ | .hatchPut _ => true
  | _ => false

/-- The legs up to and including the first put. -/
def runOf : List Leg → List Leg
  | [] => []
  | g :: rest => if g.isPut then [g] else g :: runOf rest

/-- What is left of a job's run: its legs from the current one to the next wait or the end (R43). -/
def Job.run (j : Job) : List Leg := runOf (j.legs.drop j.leg)

/-- A job's current leg. -/
def Job.currentLeg (j : Job) : Option Leg := j.legs[j.leg]?

/-- The order of a job's current leg. -/
def Job.currentOrder (j : Job) : Option Order := j.currentLeg.bind Leg.order

/-- A hand that holds nothing. -/
def Hand.isEmpty : Hand → Bool
  | .empty => true
  | .loaded _ => false

/-- The volume in a hand, when it is known. -/
def Hand.volume? : Hand → Option Nat
  | .empty => none
  | .loaded v => v

/-- The order in flight is one that `p` holds of. -/
def Arm.hasInFlight (a : Arm) (p : Order → Bool) : Bool :=
  match a.inFlight with
  | some f => p f.order
  | none => false

/-! ### Spans and claims (R76, R77) -/

/-- The least span that holds a position and some others. -/
def spanOf (p : Nat) : List Nat → Span
  | [] => { low := p, high := p }
  | q :: rest =>
    let t := spanOf p rest
    { low := min q t.low, high := max q t.high }

/-- One span lies inside another. -/
def Span.within (inner outer : Span) : Bool := outer.low ≤ inner.low && inner.high ≤ outer.high

/-- Where an arm stands for the forming of spans: its position, or its last known position while that is
unknown (assumption log 19). -/
def Arm.place (a : Arm) : Nat := a.position.getD a.lastKnown

/-- The positions a run needs: its remaining targets and the home cell of its reel (R77). -/
def State.runPositions (s : State) (x : ArmId) (legs : List Leg) (volume : Option Nat) : List Nat :=
  legs.filterMap (s.legPosition x) ++ ((volume.bind s.homeCell).bind s.cellPosition).toList

/-- The claim a run needs from an arm's position (R77). -/
def State.neededSpan (s : State) (x : ArmId) (legs : List Leg) (volume : Option Nat) : Span :=
  spanOf (s.arm x).place (s.runPositions x legs volume)

/-- What bounds the other arm: the claim of an arm, or while it is HOMING the one it held before, in which its
own is to be formed again (R76, R93; DEDUCED, assumption log 66). -/
def Arm.bound (a : Arm) : Option Span := if a.claim.isSome then a.claim else a.heldClaim

/-- A span of arm `x` keeps the rule of R76 with what bounds it; an arm that has held no claim since power-on
or a warm reset bounds nothing. -/
def State.keepsRule (s : State) (x : ArmId) (t : Span) : Bool :=
  match (s.arm (otherArm x)).bound with
  | none => true
  | some c =>
    match x with
    | .a => t.high + s.map.separation ≤ c.low
    | .b => c.high + s.map.separation ≤ t.low

/-- A span lies inside the claim that an arm holds. -/
def Arm.covers (a : Arm) (t : Span) : Bool :=
  match a.claim with
  | some c => t.within c
  | none => false

/-- Where the other arm yields to for a span of arm `x`, when that lies on the rail (R79). -/
def State.yieldPosition (s : State) (x : ArmId) (t : Span) : Option Nat :=
  match x with
  | .a => if t.high + s.map.separation ≤ 1023 then some (t.high + s.map.separation) else none
  | .b => if s.map.separation ≤ t.low then some (t.low - s.map.separation) else none

/-- An arm is IDLE with an EMPTY hand, so it can be given a run or a yield (R78). -/
def State.isIdle (s : State) (x : ArmId) : Bool :=
  (s.arm x).state = .idle && (s.arm x).hand.isEmpty

/-- An arm is on its way through a yield: it has no job and a YIELD is in flight or kept (R79). -/
def State.yielding (s : State) (x : ArmId) : Bool :=
  let a := s.arm x
  a.job.isNone && (a.hasInFlight Order.isYield || match a.nextOrder with
    | some o => o.isYield
    | none => false)

/-- The claim an arm holds in the states that fix it: IDLE, DISABLED and PARKED (R76). -/
def pointClaim (p : Nat) : Option Span := some { low := p, high := p }

/-- The claim of a DISABLED arm (R76). -/
def Arm.disabledClaim (x : ArmId) (a : Arm) : Option Span :=
  match a.position with
  | some p => pointClaim p
  | none => some (spanOf (railEnd x) [a.lastKnown])

/-- A claim extended to the arm's rail end, as a REHOMING arm holds it (R76). -/
def Arm.extendedClaim (x : ArmId) (a : Arm) : Option Span :=
  match a.claim with
  | some c =>
    match x with
    | .a => some { low := 0, high := c.high }
    | .b => some { low := c.low, high := 1023 }
  | none => some (spanOf (railEnd x) [a.place])

/-! ### Sending orders (R70 to R72) -/

/-- A tag that R71 passes over for arm `x`: in flight on the other arm, or last timed out on either. -/
def State.tagTaken (s : State) (x : ArmId) (t : Nat) : Bool :=
  (match (s.arm (otherArm x)).inFlight with
    | some f => f.tag = t
    | none => false) ||
    (s.arm .a).lastTimedOut = some t || (s.arm .b).lastTimedOut = some t

/-- The first tag from `t` upward, going from 15 back to 0, that is not taken; three at most are. -/
def State.freeTagFrom (s : State) (x : ArmId) : (fuel : Nat) → (t : Nat) → Nat
  | 0, t => t
  | fuel + 1, t => if s.tagTaken x t then s.freeTagFrom x fuel ((t + 1) % 16) else t

/-- The tag the next order of arm `x` takes (R71). -/
def State.freeTag (s : State) (x : ArmId) : Nat := s.freeTagFrom x 15 s.arms.tagCounter

/-- Sends an order: it takes its tag, becomes the arm's order in flight, and its supervision starts
(R71, R72). A HOME of library homing leaves a kept next order in place (R93). -/
def State.sendOrder (x : ArmId) (o : Order) (s : State) : State :=
  let tag := s.freeTag x
  let position := s.orderPosition x o
  let s := s.updateArm x fun a =>
    { a with
      inFlight := some { tag := tag, order := o }
      nextOrder := if o = .home && a.nextOrder ≠ some .home then a.nextOrder else none
      homeDue := a.homeDue && o ≠ .home
      supervision := .running (s.policy.supervisionTicks (o = .home)) }
  let s := { s with arms := { s.arms with tagCounter := (tag + 1) % 16 } }
  s.emit (.robot (.order x tag o position))

/-- Whether an order may be sent to an arm now: by the mode (R71) and by the hand (R70). -/
def State.maySend (s : State) (x : ArmId) (o : Order) : Bool :=
  match o with
  | .home =>
    if (s.arm x).state = .homing then s.mode.isHoming
    else s.mode ≠ .configure && !s.mode.isSafe
  | .yieldTo _ => s.mode.sendsRuns
  | o => s.mode.sendsRuns && (s.arm x).hand.isEmpty = o.isTake

/-- An order is kept as an arm's next (R71, R77). -/
def State.keepNext (x : ArmId) (o : Order) (s : State) : State :=
  s.updateArm x fun a => { a with nextOrder := some o }

/-- Sends an order when the arm has none in flight and the mode allows it; otherwise keeps it as the
arm's next order (R71). -/
def State.dispatch (x : ArmId) (o : Order) (s : State) : State :=
  if (s.arm x).inFlight.isNone && s.maySend x o then s.sendOrder x o else s.keepNext x o

/-- The HOME of library homing, once the arm has no order in flight; it is sent once (R93). -/
def State.homeIfDue (x : ArmId) (s : State) : State :=
  let a := s.arm x
  if a.state = .homing && a.homeDue && a.inFlight.isNone && s.mode.isHoming then s.sendOrder x .home
  else s

/-! ### Going on with a run (R77, R79) -/

/-- Gives an arm a YIELD: it becomes MOVING without a job and claims the span of its way (R79). -/
def State.giveYield (x : ArmId) (p : Nat) (s : State) : State :=
  (s.updateArm x fun a => { a with state := .moving, claim := some (spanOf a.place [p]) })
    |>.dispatch x (.yieldTo p)

/-- The claim of a MOVING arm formed again while an order is in flight, when the legs left to its job have
changed: the span of its position, the target of that order and what the run now needs (R77; assumption log
38). -/
def State.formInFlight (x : ArmId) (f : InFlight) (j : Job) (s : State) : State :=
  let a := s.arm x
  let need := spanOf a.place
    ((s.orderPosition x f.order).toList ++ s.runPositions x j.run j.volume)
  if a.state = .moving && a.covers need then s.updateArm x fun a => { a with claim := some need } else s

/-- Forms an arm's claim again as the span it needs (R77): a span within the claim narrows it at once, whatever
the other arm does, and an extension is granted while it keeps the rule of R76; the arm then goes on as
`granted`. Otherwise the arm keeps its claim and waits as `waits`, and the other arm yields when it can. -/
def State.formClaim (x : ArmId) (need : Span) (granted waits : State → State) (s : State) : State :=
  if (s.arm x).covers need || s.keepsRule x need then
    granted (s.updateArm x fun a => { a with claim := some need })
  else
    match s.yieldPosition x need with
    | some p => if s.isIdle (otherArm x) then (waits s).giveYield (otherArm x) p else waits s
    | none => waits s

/-- Forms the claim of a MOVING arm for the rest of its job's run and sends the order of the current leg, or
keeps it as the arm's next while the arm waits (R77). With an order in flight the claim alone is formed. A
HOMING arm keeps the order as its next. -/
def State.tryGo (x : ArmId) (s : State) : State :=
  match s.armJob x with
  | none => s
  | some (_, j) =>
    match j.currentOrder with
    | none => s
    | some o =>
      let a := s.arm x
      if j.state ≠ .assigned then s
      else
        match a.inFlight with
        | some f => s.formInFlight x f j
        | none =>
          if a.state = .homing then s.keepNext x o
          else if a.state ≠ .moving then s
          else
            s.formClaim x (s.neededSpan x j.run j.volume) (State.dispatch x o) (State.keepNext x o)

/-- A waiting arm tries again: MOVING for its job, no order in flight, and its next order held (R77). -/
def State.retryArm (x : ArmId) (s : State) : State :=
  let a := s.arm x
  if a.state = .moving && a.inFlight.isNone && a.nextOrder.isSome then s.tryGo x else s

/-- Sends a held order that the mode now allows (R71). -/
def State.resumeArm (x : ArmId) (s : State) : State :=
  let a := s.arm x
  match a.nextOrder with
  | some .home => if a.state = .homing then s else s.dispatch x .home
  | some (.yieldTo p) => s.dispatch x (.yieldTo p)
  | some _ => s.retryArm x
  | none => s

/-! ### Rehoming and disabling (R85, R87) -/

/-- An arm becomes REHOMING, extends its claim to its rail end and is sent a HOME (R85, R88). -/
def State.rehome (x : ArmId) (restored : Bool) (s : State) : State :=
  ((s.updateArm x fun a =>
      { a with state := .rehoming restored, claim := a.extendedClaim x, nextOrder := none })
    |>.evalArmState).dispatch x .home

/-- The ARM_FAULT prompt of an arm, allowing REMOVED when it is posted with the hand LOADED (R87). -/
def State.postArmFault (x : ArmId) (s : State) : State :=
  let hand := (s.arm x).hand
  s.post (.arm x) .armFault { arm := some x, serial := hand.volume?.bind s.serialOf } (!hand.isEmpty)

/-- An arm is disabled, but for what happens to its job (R87). The entry's one further value holds both the
hand state and the position that R87 names (DESIGN CHOICE, assumption log 64). -/
def State.disableCore (x : ArmId) (s : State) : State :=
  let a := s.arm x
  let s := s.logError .armDisabled .library
    { arm := some x, job := a.job.map JobRef.number
      detail := some (.handAt (!a.hand.isEmpty) a.place) }
  let s := s.updateArm x fun a =>
    { a with
      state := .disabled, claim := a.disabledClaim x, interrupted := none, nextOrder := none
      supervision := .stopped }
  s.evalArmState.postArmFault x

/-- A job gives an arm back (R42, R74). A MOVING arm with no order in flight becomes IDLE with its claim
the single point of its position; with a reel in hand that no job accounts for it is disabled. An arm
being homed only loses its job. -/
def State.giveBackArm (x : ArmId) (s : State) : State :=
  let a := s.arm x
  let s := s.updateArm x fun a =>
    { a with job := none, nextOrder := if a.nextOrder = some .home then some .home else none }
  if a.state = .moving && a.inFlight.isNone then
    if a.hand.isEmpty then
      (s.updateArm x fun a => { a with state := .idle, claim := pointClaim a.place }).evalArmState
    else s.disableCore x
  else s

end Sys2Proof.Machine
end

