-- ==== Sys2Proof/Machine/Jobs.lean ====
section
/-!
DEFINITION. The Work List's operations: the states of a job, its bays, its lifecycle frame, holds,
creations and its end, with the drive states that go with them (R25, R33, R35, R37, R41 to R66).
-/

namespace Sys2Proof.Machine

/-! ### Assignment order (R59) -/

/-- The kind rank: DEMOUNT and CLEAN, then EJECT and ENTER, then MOUNT (R59). -/
def JobKind.rank : JobKind → Nat
  | .demount | .clean => 0
  | .eject | .enter => 1
  | .mount => 2

/-- One job goes before another in assignment order (R59). -/
def Job.before (i j : Job) : Bool :=
  decide (j.effective < i.effective) ||
    (i.effective = j.effective &&
      (decide (i.kind.rank < j.kind.rank) ||
        (i.kind.rank = j.kind.rank && decide (i.sequence < j.sequence))))

/-- Puts an entry into a list that stands in assignment order. -/
def insertJob (e : Nat × Job) : List (Nat × Job) → List (Nat × Job)
  | [] => [e]
  | f :: rest => if e.2.before f.2 then e :: f :: rest else f :: insertJob e rest

/-- The numbers of the jobs that `p` holds of, in assignment order (R59). -/
def State.inOrder (s : State) (p : Job → Bool) : List Nat :=
  ((s.work.jobs.filter fun e => p e.2).foldr insertJob []).map Prod.fst

/-! ### Job states and bays -/

/-- A job enters a state. Entering WAITING starts the aging timer; leaving it stops the timer (R59). -/
def State.setJobState (n : Nat) (t : JobState) (s : State) : State :=
  s.updateJob n fun j =>
    { j with state := t, aging := if t = .waiting then .running s.policy.agingTicks else .stopped }

/-- A job's reference, for a job on the list. -/
def State.refOf (s : State) (n : Nat) : Option JobRef := (s.job? n).map fun j => j.ref n

/-- A bay promised to this job becomes FREE; any other bay is unchanged (R96). -/
def freeReservation (r : JobRef) (b : BayState) : BayState := if b = .reserved r then .free else b

/-- A HATCH_PUT leg that has given its bay back. -/
def Leg.withoutHatch : Leg → Leg
  | .hatchPut _ => .hatchPut none
  | g => g

/-- A job gives back the bays reserved for it and not used (R42, R96). -/
def State.giveBackBays (n : Nat) (s : State) : State :=
  match s.job? n with
  | none => s
  | some j =>
    let r := j.ref n
    let ringKept := s.station.ring.items.any fun b => match b with
      | .holding _ (some q) => q = r
      | _ => false
    let hatchKept := s.station.hatch.items.any fun b => match b with
      | .holding _ (some q) => q = r
      | _ => false
    let s := { s with station :=
      { ring := s.station.ring.map (freeReservation r)
        hatch := s.station.hatch.map (freeReservation r) } }
    s.updateJob n fun j =>
      { j with
        ringBay := if ringKept then j.ringBay else none
        hatchBay := if hatchKept then j.hatchBay else none
        legs := if hatchKept then j.legs else j.legs.map Leg.withoutHatch }

/-- A job's reel stands in its ring bay. -/
def State.reelInRing (s : State) (j : Job) (n : Nat) : Option RingBay :=
  match j.ringBay with
  | some b =>
    match s.station.ring.get b with
    | .holding _ (some r) => if r = j.ref n then some b else none
    | _ => none
  | none => none

/-- A job's arm becomes absent and is given back (R42). -/
def State.releaseArm (n : Nat) (s : State) : State :=
  match s.job? n with
  | some j =>
    match j.arm with
    | some x => (s.updateJob n fun j => { j with arm := none }).giveBackArm x
    | none => s
  | none => s

/-! ### Lifecycle frames (R66) -/

/-- Sends a lifecycle frame to a job's origin and clears the origin; a job without one sends nothing. -/
def State.sendLifecycle (n : Nat) (f : Lifecycle) (s : State) : State :=
  match s.job? n with
  | some j =>
    match j.origin with
    | some o =>
      (s.emit (.link o.link (.lifecycle o.tag f n j.drive j.serial))).updateJob n fun j =>
        { j with origin := none }
    | none => s
  | none => s

/-- A failure decided while the job goes on: a cancelled job sends nothing and keeps its origin (R65). -/
def State.sendFailure (n : Nat) (f : Lifecycle) (s : State) : State :=
  match s.job? n with
  | some j => if j.cancelled then s else s.sendLifecycle n f
  | none => s

/-! ### Making jobs (R41, R46, R50) -/

/-- A job record with the fields every kind begins with (R41, R46). -/
def newJob (kind : JobKind) (sequence : Nat) : Job :=
  { kind := kind, sequence := sequence, origin := none, drive := none, volume := none, serial := none
    intent := .read, mountKind := .robot, account := 0, priority := 0, effective := 0, state := .waiting
    legs := [], leg := 0, arm := none, retryUsed := false, counted := .none, cancelled := false
    returning := false, ringBay := none, hatchBay := none, prompt := none, aging := .stopped
    scratch := false, disposal := .none, mounted := false }

/-- The lowest-numbered free entry of the work list (R41). -/
def State.freeJob (s : State) : Option Nat := s.work.jobs.firstFree 48

/-- Fills a job entry with a record that takes the next admission sequence (R41). -/
def State.addJob (n : Nat) (j : Job) (s : State) : State :=
  { s with work := { s.work with
      jobs := s.work.jobs.put n { j with sequence := s.work.nextSequence }
      nextSequence := (s.work.nextSequence + 1) % 4294967296 } }

/-- A drive's job field names a job (R22). -/
def State.nameDrive (d : DriveId) (n : Nat) (s : State) : State :=
  s.updateDrive d fun e => { e with job := some n }

/-- The set of owed creations with the one of a drive replaced (R50). -/
def State.setOwed (d : DriveId) (k : Option OwedKind) (s : State) : State :=
  { s with work := { s.work with owed := s.work.owed.set d k } }

/-- Where a reel goes at the end of its way: home to its cell, or out through the hatch when the map
gives it no cell. -/
def State.homeLeg (s : State) (volume : Option Nat) : Leg :=
  match volume.bind s.homeCell with
  | some c => .stow c
  | none => .hatchPut none

/-- The legs of a CLEAN job from its PULL: STOW, or HATCH_PUT when the cleaner's uses left is 0 (R43). -/
def State.cleanerLegs (s : State) (d : DriveId) (volume : Option Nat) : List Leg :=
  let spent : Bool := match volume.bind s.volume? with
    | some v => decide (v.usesLeft = 0)
    | none => false
  [.pull d, if spent then .hatchPut none else s.homeLeg volume]

/-- A job whose drive has unloaded takes its next steps by where its reel must go (R49, R107). The serial
named to the operator is the volume's at the drive, or else the job's own. -/
def State.afterUnloaded (n : Nat) (d : DriveId) (s : State) : State :=
  let v := s.locatedAt (.drive d)
  let byHand := (v.bind s.homeCell).isNone || (s.drive d).lastMountKind = some .manual
  if byHand then
    let serial := match v.bind s.serialOf with
      | some c => some c
      | none => (s.job? n).bind Job.serial
    (s.setJobState n .manual).postForJob n .demountByHand { drive := some d, serial := serial }
  else
    (s.updateJob n fun j => { j with legs := [.pull d, s.homeLeg v], leg := 0, retryUsed := false })
      |>.setJobState n .waiting

/-- Creates a DEMOUNT job without an origin, at priority 2 (R50). -/
def State.makeDemount (n : Nat) (d : DriveId) (s : State) : State :=
  let v := s.locatedAt (.drive d)
  let j := { newJob .demount 0 with
    drive := some d, volume := v, serial := v.bind s.serialOf, priority := 2, effective := 2 }
  ((s.addJob n j).nameDrive d n).afterUnloaded n d

/-- Creates a CLEAN job without an origin, at priority 1 (R50). -/
def State.makeClean (n : Nat) (d : DriveId) (s : State) : State :=
  let j := { newJob .clean 0 with drive := some d, priority := 1, effective := 1 }
  ((s.addJob n j).nameDrive d n).setJobState n .waiting

/-- Creates a CLEAN job that begins at its PULL leg, at priority 1 (R50). -/
def State.makeCleanFromPull (n : Nat) (d : DriveId) (s : State) : State :=
  let v := s.locatedAt (.drive d)
  let j := { newJob .clean 0 with
    drive := some d, volume := v, serial := v.bind s.serialOf, priority := 1, effective := 1
    legs := s.cleanerLegs d v }
  ((s.addJob n j).nameDrive d n).setJobState n .waiting

/-- Makes the job of a creation in a free entry, or owes it when the list is full (R50). -/
def State.create (d : DriveId) (k : OwedKind) (s : State) : State :=
  match s.freeJob with
  | none => s.setOwed d (some k)
  | some n =>
    match k with
    | .demount => s.makeDemount n d
    | .clean => s.makeClean n d
    | .cleanFromPull => s.makeCleanFromPull n d

/-- The drive state that asks for each creation (R50). -/
def OwedKind.driveState : OwedKind → DriveState
  | .demount | .cleanFromPull => .awaitingPull
  | .clean => .cleanDue

/-- Makes or drops the creation owed to one drive, while an entry is free (R50). -/
def State.makeOwed (s : State) (d : DriveId) : State :=
  match s.freeJob, s.work.owed.get d with
  | some _, some k =>
    let s := s.setOwed d none
    if (s.drive d).state = k.driveState && (s.drive d).job.isNone then s.create d k else s
  | _, _ => s

/-! ### Drives entering SERVICE or being emptied (R33, R35, R37) -/

/-- Withdraws the DRIVE_SERVICE prompt a drive owns, open or owed (R127). -/
def State.withdrawDriveService (d : DriveId) (s : State) : State :=
  let s := match (s.drive d).servicePrompt with
    | some p => (s.updateDrive d fun e => { e with servicePrompt := none }).withdraw (.drive d) p
    | none => s
  s.dropOwed (.drive d) fun k => k = .driveService

/-- A drive posts DRIVE_SERVICE. -/
def State.postDriveService (d : DriveId) (s : State) : State :=
  s.post (.drive d) .driveService { drive := some d } false

/-- What a drive in SERVICE puts to the operators: DEMOUNT_BY_HAND for the volume it holds, otherwise
DRIVE_SERVICE, which it posts or keeps (R35). -/
def State.postService (d : DriveId) (s : State) : State :=
  match s.locatedAt (.drive d) with
  | some v =>
    (s.withdrawDriveService d).post (.drive d) .demountByHand
      { drive := some d, serial := s.serialOf v } false
  | none =>
    if (s.drive d).servicePrompt.isSome || s.isOwed (.drive d) .driveService then s
    else s.postDriveService d

/-- A drive enters SERVICE (R35). Its job field is cleared and the job's record is left: the job goes on naming
the drive, which a new mount may come to name as well (DESIGN CHOICE, assumption log 61). -/
def State.enterService (d : DriveId) (s : State) : State :=
  let s := s.updateDrive d fun e =>
    { e with state := .service, loadTimer := .stopped, cleaningTimer := .stopped, job := none }
  s.evalDriveService.postService d

/-- A cleaning is due: a nonzero interval that the mounts since clean have reached (R37). -/
def Drive.cleaningDue (e : Drive) : Bool := e.cleanInterval ≠ 0 && e.cleanInterval ≤ e.mountsSinceClean

/-- A drive is emptied: SERVICE when draining, CLEAN_DUE when due, otherwise EMPTY (R33, R37). -/
def State.emptyDrive (d : DriveId) (s : State) : State :=
  let s := s.updateDrive d fun e => { e with lastMountKind := none }
  let e := s.drive d
  if e.draining then s.enterService d
  else if e.cleaningDue then
    let s := s.updateDrive d fun e => { e with state := .cleanDue }
    if e.job.isNone then s.create d .clean else s
  else s.updateDrive d fun e => { e with state := .empty }

/-- A drive is told that its job has ended, or has let it go: the job field is cleared, a RESERVED drive
is emptied and a LOADING one goes to SERVICE holding its reel (R25, R26). -/
def State.driveJobEnded (n : Nat) (d : DriveId) (s : State) : State :=
  if (s.drive d).job = some n then
    let t := (s.drive d).state
    let s := s.updateDrive d fun e => { e with job := none }
    if t = .reserved then s.emptyDrive d
    else if t = .loading then s.enterService d
    else s
  else s

/-- The EMPTY drive that a reel came from takes a new mount while the reel waits at the ring station: its job
field, which R33 leaves to the job, is let go by the job (R100; DESIGN CHOICE, assumption log 51). -/
def State.freeEmptied (n : Nat) (s : State) : State :=
  match (s.job? n).bind Job.drive with
  | some d =>
    if (s.drive d).state = .empty && (s.drive d).job = some n then
      s.updateDrive d fun e => { e with job := none }
    else s
  | none => s

/-! ### Holds (R47, R53, R56) -/

/-- A job is to be mounted by hand. -/
def Job.handMount (j : Job) : Bool := j.mountKind = .manual || j.mountKind = .foreign

/-- The legs of a MOUNT by robot before its ring decision (R43). -/
def State.mountLegs (s : State) (j : Job) : List Leg :=
  match j.volume.bind s.homeCell, j.drive with
  | some c, some d => [.fetch c, .load d]
  | _, _ => []

/-- A job leaves its hold evaluation unheld: MANUAL with MOUNT_BY_HAND, or WAITING with its FETCH formed anew
and retry used clear (R47; DESIGN CHOICE, assumption log 75). -/
def State.unhold (n : Nat) (s : State) : State :=
  match s.job? n with
  | none => s
  | some j =>
    if j.handMount then
      ((s.updateJob n fun j => { j with legs := [], leg := 0 }).setJobState n .manual).postForJob n
        .mountByHand { serial := j.serial, drive := j.drive, intent := some j.intent }
    else
      (s.updateJob n fun j => { j with legs := s.mountLegs j, leg := 0, retryUsed := false })
        |>.setJobState n .waiting

/-- Step 5 of the hold evaluation, and its end: the allowance check (R47, R56, R161). -/
def State.allowanceStep (n : Nat) (s : State) : State :=
  match s.job? n with
  | none => s
  | some j =>
    if j.counted ≠ .none || j.mountKind = .foreign then s.unhold n
    else if s.allowancePasses j.account then
      ((s.countMount j.account).updateJob n fun j => { j with counted := .allowance }).unhold n
    else
      (s.setJobState n (.held .allowance)).postForJob n .approveMount
        { account := some (s.accountCode j.account), serial := if j.scratch then none else j.serial
          drive := j.drive }

/-- A job that takes a volume home: a DEMOUNT, or one with returning set (R45). -/
def Job.takesHome (j : Job) : Bool := j.kind = .demount || j.returning

/-- The volume of a job is named by another job taking it home (R47, step 4). -/
def State.comingHome (s : State) (n v : Nat) : Bool :=
  s.work.jobs.any fun e => e.1 ≠ n && e.2.volume = some v && e.2.takesHome

/-- The hold evaluation of a MOUNT job (R47). -/
def State.holdEval (n : Nat) (s : State) : State :=
  match s.job? n with
  | none => s
  | some j =>
    match j.volume.bind fun v => (s.volume? v).map fun e => (v, e) with
    | none =>
      if j.scratch then s.allowanceStep n
      else (s.updateJob n fun j => { j with mountKind := .foreign }).allowanceStep n
    | some (v, e) =>
      let cell := s.homeCell v
      if e.location = .shelf then
        (s.updateJob n fun j => { j with mountKind := .manual }).allowanceStep n
      else
        let s := s.updateJob n fun j => { j with mountKind := .robot }
        if e.suspect then
          (s.setJobState n (.held .suspect)).postForJob n .checkReel
            { serial := some e.serial, cell := cell }
        else if e.location = .uncertain then
          (s.setJobState n (.held .uncertain)).postForJob n .verifyVolume
            { serial := some e.serial, cell := cell }
        else if s.comingHome n v || e.location ≠ .cell then s.setJobState n (.held .waitVolume)
        else s.allowanceStep n

/-! ### Availability (R10, R57) -/

/-- Releases the jobs held for a pool, in assignment order, and withdraws their prompts (R57). -/
def State.releasePool (reason : HoldReason) (s : State) : State :=
  (s.inOrder fun j => j.state = .held reason).foldl
    (fun s n => (s.withdrawJobPrompt n fun _ => true).setJobState n .waiting) s

/-- A volume of a pool has come to qualify since `before` (R10). -/
def State.newlyQualifies (s before : State) (pool : Pool) : Bool :=
  s.map.volumes.any fun e => s.qualifies pool e.1 && !before.qualifies pool e.1

/-- The availability events of a change from `before`, one for each pool of which a volume has come to qualify
(R10). When one event makes a volume of each pool
qualify, the jobs HELD NO_SCRATCH are released before those HELD NO_CLEANER (DESIGN CHOICE, assumption log
59). -/
def State.availability (before s : State) : State :=
  let s := if s.newlyQualifies before .scratchPool then s.releasePool .noScratch else s
  if s.newlyQualifies before .cleanPool then s.releasePool .noCleaner else s

/-! ### The end of a job (R44) -/

/-- Re-evaluates the jobs HELD WAIT_VOLUME on a volume (R58). -/
def State.recheckWaiting (volume : Option Nat) (s : State) : State :=
  match volume with
  | none => s
  | some v =>
    ((s.work.jobs.filter fun e => e.2.state = .held .waitVolume && e.2.volume = some v).map
      Prod.fst).foldl (fun s n => s.holdEval n) s

/-- Step 9 of a job's end: a drive left CLEAN_DUE, or AWAITING_PULL with auto-demount, with no job is
given one (R44, R50). -/
def State.afterEnd (d : DriveId) (s : State) : State :=
  let e := s.drive d
  if e.job.isSome then s
  else if e.state = .cleanDue then s.create d .clean
  else if e.state = .awaitingPull && e.autoDemount then s.create d .demount
  else s

/-- The outcome a job ends with: CANCELLED in place of any other once a CANCEL was accepted for it (R65, R66). -/
def Job.outcome (j : Job) (frame : Option Lifecycle) : Option Lifecycle :=
  if j.cancelled then some .cancelled else frame

/-- A job ends with an outcome, whose frame its origin is sent (R44). -/
def State.endJob (n : Nat) (frame : Option Lifecycle) (s : State) : State :=
  match s.job? n with
  | none => s
  | some j =>
    let s := match j.outcome frame with
      | some f => s.sendLifecycle n f
      | none => s
    let s := (s.withdrawJobPrompt n fun _ => true).giveBackBays n
    let s := match j.drive with
      | some d => s.driveJobEnded n d
      | none => s
    let s :=
      if j.kind = .mount && j.cancelled && !j.mounted then s.returnCount j.account j.counted else s
    let before := s
    let s := { s with work := { s.work with jobs := s.work.jobs.erase n } }
    let s := State.availability before s
    let s := s.recheckWaiting j.volume
    let s := allDrives.foldl State.makeOwed s
    let s := match j.drive with
      | some d => if j.outcome frame = some .cancelled then s else s.afterEnd d
      | none => s
    match j.arm with
    | some x => s.giveBackArm x
    | none => s

/-- A scratch MOUNT or CLEAN job drops its volume and becomes WAITING, to choose again (R55). -/
def State.dropVolume (n : Nat) (s : State) : State :=
  let s := (s.withdrawJobPrompt n fun _ => true).giveBackBays n
  (s.updateJob n fun j =>
    { j with volume := none, serial := none, legs := [], leg := 0, retryUsed := false })
    |>.setJobState n .waiting

/-- A job chooses its volume for itself: a scratch MOUNT or a CLEAN job. -/
def Job.chooses (j : Job) : Bool := j.scratch || j.kind = .clean

/-- The failure frame of a job by its kind; a DEMOUNT or CLEAN job has none of these. -/
def Job.failure (j : Job) (m : MountFailure) (v : MoveFailure) : Option Lifecycle :=
  match j.kind with
  | .mount => some (.mountFailed m)
  | .eject | .enter => some (.moveFailed v)
  | .demount | .clean => none

end Sys2Proof.Machine
end

