-- ==== Sys2Proof/Machine/Motion.lean ====
section
/-!
DEFINITION. What the completion, the fault or the expiry of an order does: the reel, the bay and the
drive, the job's leg, retries, rehoming and disabling, yields and library homing (R70 to R93, R99 to
R103).
-/

namespace Sys2Proof.Machine

/-! ### What an order's DONE moves (R4, R70, R74 step 1) -/

/-- The state with an arm's hand changed. -/
def State.setHand (x : ArmId) (h : Hand) (s : State) : State := s.updateArm x fun a => { a with hand := h }

/-- The volume a bay is HOLDING. -/
def BayState.volume? : BayState → Option Nat
  | .holding v _ => some v
  | _ => none

/-- A reel comes into an arm's hand; a known volume moves there (R4). -/
def State.grip (x : ArmId) (volume : Option Nat) (s : State) : State :=
  let s := s.setHand x (.loaded volume)
  match volume with
  | some v => s.moveVolume v (.arm x)
  | none => s

/-- The reel in an arm's hand is put down; a known volume moves to its new place (R4). -/
def State.letGo (x : ArmId) (l : Location) (s : State) : State :=
  let v := (s.arm x).hand.volume?
  let s := s.setHand x .empty
  match v with
  | some v => s.moveVolume v l
  | none => s

/-- What a bay holds once a reel has been put into it by a job; a reel the map does not place is
unknown. -/
def heldBay (volume : Option Nat) (job : Option JobRef) : BayState :=
  match volume with
  | some v => .holding v job
  | none => .unknown

/-- The drive's side of a LOAD's DONE: RESERVED becomes LOADING for its job, CLEAN_DUE becomes CLEANING
for a cleaner, and a drive in SERVICE withdraws DRIVE_SERVICE (R26, R35, R37). A drive in another state, as one
whose DRIVE_SERVICE was answered while a cleaner's LOAD was in flight, keeps it (DESIGN CHOICE, assumption log
73). -/
def State.driveLoaded (d : DriveId) (job : Option (Nat × Job)) (s : State) : State :=
  let e := s.drive d
  match job with
  | some (n, j) =>
    if j.kind = .clean then
      if e.state = .cleanDue then
        s.updateDrive d fun e =>
          { e with state := .cleaning, cleaningTimer := .running s.policy.cleaningTicks }
      else if e.state = .service then s.withdrawDriveService d
      else s
    else if e.state = .reserved && e.job = some n then
      s.updateDrive d fun e => { e with state := .loading, loadTimer := .running s.policy.loadTicks }
    else s
  | none => s

/-- The hand, the map, the drive and the bay after an order's DONE (R70, R74 step 1). A FETCH of a
volume that has left its cell leaves a reel the map does not place (R55). A STOW that returns to its cell a volume
no job names may make a scratch volume or a cleaner available (R10); that of a volume a job names does so at the
job's end (R44). -/
def State.orderEffect (x : ArmId) (o : Order) (s : State) : State :=
  let ref := (s.arm x).job
  match o with
  | .fetch c =>
    let v := (s.homedAt c).filter fun v => (s.volume? v).map Volume.location = some Location.cell
    s.grip x v
  | .pull d =>
    let s := s.grip x (s.locatedAt (.drive d))
    if (s.drive d).state = .awaitingPull then s.emptyDrive d else s
  | .ringTake b => (s.grip x (s.station.ring.get b).volume?).setRing b .free
  | .hatchTake b => (s.grip x (s.station.hatch.get b).volume?).setHatch b .free
  | .stow _ => State.availability s (s.letGo x .cell)
  | .load d => (s.letGo x (.drive d)).driveLoaded d (s.armJob x)
  | .ringPut b => (s.letGo x (.ring b)).setRing b (heldBay (s.arm x).hand.volume? ref)
  | .hatchPut b => (s.letGo x (.hatch b)).setHatch b (heldBay (s.arm x).hand.volume? ref)
  | .home | .yieldTo _ => s

/-! ### Turning a job home, and matters that wait for an order -/

/-- A LOAD of this job is in flight. -/
def State.loadInFlight (s : State) (j : Job) : Bool :=
  match j.arm with
  | some x => (s.arm x).hasInFlight fun o => match o with
    | .load _ => true
    | _ => false
  | none => false

/-- A job turns home: returning is set and its remaining legs take its reel home (R61, R64, R83). Retry used
is clear for the new leg, but for a LOAD in flight, whose refusal would be its second if it is set (R25). -/
def State.turnHome (n : Nat) (s : State) : State :=
  s.updateJob n fun j =>
    { j with
      returning := true, legs := [s.homeLeg j.volume], leg := 0
      retryUsed := j.retryUsed && s.loadInFlight j }

/-- A job whose reel stands in a ring bay turns home from there (R61, R64, R99). -/
def State.turnHomeFromRing (n : Nat) (b : RingBay) (s : State) : State :=
  s.updateJob n fun j =>
    { j with returning := true, legs := [.ringTake b, s.homeLeg j.volume], leg := 0 }

/-- A MOUNT whose drive has been taken by a foreign reel and which has not yet been turned (R61). -/
def Job.driveTaken (j : Job) : Bool := j.kind = .mount && j.drive.isNone && !j.returning

/-- A job cancelled while HELD ARM_LOST, whose legs are still those of its way out; it is turned home once
its arm resumes (R64, R88). -/
def Job.toBeTurned (j : Job) : Bool :=
  j.cancelled && j.returning && decide (j.disposal = .none) && j.legs.any fun g => match g with
    | .load _ | .hatchPut _ => true
    | _ => false

/-- A CLEAN job whose drive went to SERVICE before its cleaner was loaded (R62). -/
def Job.driveGone (j : Job) : Bool := j.kind = .clean && j.drive.isNone && !j.returning

/-- A job that has still to fetch its reel. -/
def Job.toFetch (j : Job) : Bool :=
  match j.currentLeg with
  | some (.fetch _) => true
  | _ => false

/-- The volume of a job that has still to fetch it has been moved to a drive (R55). -/
def State.volumeTaken (s : State) (j : Job) : Bool :=
  j.toFetch && match j.volume.bind s.volume? with
    | some e => match e.location with
      | .drive _ => true
      | _ => false
    | none => false

/-- Settles a job whose volume an unrequested READY has moved to a drive (R55). -/
def State.settleTaken (n : Nat) (s : State) : State :=
  match s.job? n with
  | some j =>
    if j.chooses && !j.cancelled then (s.dropVolume n).releaseArm n
    else s.endJob n (j.failure .volumeInUse .volumeInUse)
  | none => s

/-- What a completion that leaves the job without its reel does about a matter that waited for it: a
CANCEL, DRIVE_TAKEN, DRIVE_SERVICE or a volume moved away (R55, R61, R62, R64). None when no such matter
stands, and the job goes on. Of several the first in this order settles it, a drive taken before a volume moved
away by the same READY (DESIGN CHOICE, assumption log 69). -/
def State.settlePending (n : Nat) (s : State) : Option State :=
  match s.job? n with
  | none => none
  | some j =>
    if j.cancelled && !j.returning && j.toFetch then some (s.endJob n none)
    else if j.driveTaken && (s.reelInRing j n).isNone then some (s.endJob n (some (.mountFailed .driveTaken)))
    else if j.driveGone && j.toFetch then some (s.endJob n none)
    else if s.volumeTaken j then some (s.settleTaken n)
    else none

/-- A MOUNT told DRIVE_TAKEN that still has its reel in a ring bay turns home from there (R61). -/
def State.turnTakenAtRing (n : Nat) (s : State) : State :=
  match s.job? n with
  | some j =>
    match j.driveTaken, s.reelInRing j n with
    | true, some b => (s.sendFailure n (.mountFailed .driveTaken)).turnHomeFromRing n b
    | _, _ => s
  | none => s

/-- What leaves a job without its reel: a matter that waited for it settles the job, and otherwise the job goes
on as given, turned home first when its drive was taken and its reel stands in a ring bay (R55, R61, R62,
R64). -/
def State.settleOr (n : Nat) (goesOn : State → State) (s : State) : State :=
  match s.settlePending n with
  | some s => s
  | none => goesOn (s.turnTakenAtRing n)

/-- A FAULT of a FETCH that is kept as interrupted, so that what the hand holds is not known: it is a completion
of the take, and a CANCEL or a volume moved to a drive settles the job at it (R55, R64). Any other matter waits
for the arm's HOME (assumption log 11). -/
def State.settleAtFault (x : ArmId) (s : State) : State :=
  match s.armJob x with
  | some (n, j) =>
    if (j.cancelled && !j.returning && j.toFetch) || s.volumeTaken j then (s.settlePending n).getD s else s
  | none => s

/-! ### The job's side of a DONE (R74 steps 2 to 4, R99, R100, R103) -/

/-- The current leg index advances and retry used is cleared (R43). -/
def State.advanceLeg (n : Nat) (s : State) : State :=
  s.updateJob n fun j => { j with leg := j.leg + 1, retryUsed := false }

/-- After a take's DONE: a job that waits to be turned is turned; otherwise the run goes on. -/
def State.afterTake (x : ArmId) (n : Nat) (o : Order) (s : State) : State :=
  let fetched := match o with
    | .fetch _ => true
    | _ => false
  match s.job? n with
  | none => s
  | some j =>
    if fetched && (s.arm x).hand.volume?.isNone then (s.settlePending n).getD (s.settleTaken n)
    else
      let s := (s.advanceLeg n).updateJob n fun j =>
        match o with
        | .ringTake _ => { j with ringBay := none }
        | .hatchTake _ => { j with hatchBay := none }
        | _ => j
      if j.driveTaken then ((s.sendFailure n (.mountFailed .driveTaken)).turnHome n).tryGo x
      else if (fetched && ((j.cancelled && !j.returning) || j.driveGone)) || j.toBeTurned then
        (s.turnHome n).tryGo x
      else s.tryGo x

/-- After a RING_PUT's DONE: AT_RING with FIT_RING for a ring fit, or REMOVE_RING for a ring removal, whose
drive may then take a new mount (R99, R100). A job turned home while the put was in flight goes on with
RING_TAKE and STOW (assumption log 13). -/
def State.afterRingPut (n : Nat) (b : RingBay) (s : State) : State :=
  match s.job? n with
  | none => s
  | some j =>
    let s := s.updateJob n fun j => { j with ringBay := some b }
    if j.currentOrder ≠ some (.ringPut b) || j.toBeTurned then
      (((s.advanceLeg n).turnHomeFromRing n b).setJobState n .waiting).releaseArm n
    else
      let s := ((s.advanceLeg n).setJobState n .atRing).releaseArm n
      if j.kind = .mount && !j.returning then
        s.postForJob n .fitRing { serial := j.serial, bay := some (.ring b), drive := j.drive }
      else (s.freeEmptied n).postForJob n .removeRing { serial := j.serial, bay := some (.ring b) }

/-- After a LOAD's DONE: LOADING for a MOUNT, CLEAN_WAIT for a CLEAN job, and its cleaner taken out by
hand when the drive had gone to SERVICE (R26, R37, R62, R64, R83). -/
def State.afterLoad (n : Nat) (d : DriveId) (s : State) : State :=
  match s.job? n with
  | none => s
  | some j =>
    if j.kind = .clean then
      let s := (s.advanceLeg n).updateJob n fun j => { j with returning := false }
      if j.drive.isNone then
        ((s.setJobState n .manual).releaseArm n).postForJob n .demountByHand
          { drive := some d, serial := j.serial }
      else (s.setJobState n .cleanWait).releaseArm n
    else if (s.drive d).job = some n then
      (((s.advanceLeg n).updateJob n fun j => { j with returning := false }).setJobState n .loading)
        |>.releaseArm n
    else s.endJob n none

/-- The outcome a job ends with at the DONE of its STOW (R49, R52). A CLEAN job turned home, its LOAD given up,
ends CANCELLED, for which it has no origin to tell (R83; assumption log 78). -/
def Job.stowFrame (j : Job) : Option Lifecycle :=
  match j.kind with
  | .demount => some .demountComplete
  | .enter => some .moveComplete
  | .clean => if j.returning then some .cancelled else none
  | .mount | .eject => none

/-- The outcome a job ends with at the DONE of its HATCH_PUT (R51, R82, R103). -/
def Job.hatchFrame (j : Job) : Option Lifecycle :=
  match j.kind with
  | .demount => some .demountComplete
  | .enter => some (.moveFailed .notInLibrary)
  | .eject => some .moveComplete
  | .mount | .clean => none

/-- A hatch bay that holds a reel without a job posts TAKE_FROM_HATCH (R103, R104). -/
def State.postTakeFromHatch (b : HatchBay) (volume : Option Nat) (label : Option Code)
    (cell : Option Cell) (s : State) : State :=
  s.post (.hatch b) .takeFromHatch
    { bay := some (.hatch b), serial := volume.bind s.serialOf, label := label, cell := cell } false

/-- After a HATCH_PUT's DONE: the home of an ejected volume or a spent cleaner becomes SHELF, that of a reel
whose cell was found occupied is left, the job ends, and the bay posts TAKE_FROM_HATCH (R82, R103). -/
def State.afterHatchPut (n : Nat) (b : HatchBay) (s : State) : State :=
  match s.job? n with
  | none => s
  | some j =>
    let stowFault := match j.disposal with
      | .stowFault _ => true
      | _ => false
    let leaves := !stowFault && (j.kind = .eject || j.kind = .clean)
    let v := (s.station.hatch.get b).volume?
    let s := match v with
      | some v => if leaves then s.updateVolume v fun e => { e with home := .shelf } else s
      | none => s
    let s := s.endJob n j.hatchFrame
    let s := s.setHatch b (heldBay v none)
    match j.disposal with
    | .none => s.postTakeFromHatch b v none none
    | .wrongReel label => s.postTakeFromHatch b v (some label) none
    | .stowFault c => s.postTakeFromHatch b v none (some c)

/-- The job's side of the DONE of an order of its run (R74, steps 2 to 4). -/
def State.legDone (x : ArmId) (n : Nat) (j : Job) (o : Order) (s : State) : State :=
  match o with
  | .fetch _ | .pull _ | .ringTake _ | .hatchTake _ => s.afterTake x n o
  | .stow _ => s.endJob n j.stowFrame
  | .load d => s.afterLoad n d
  | .ringPut b => s.afterRingPut n b
  | .hatchPut b => s.afterHatchPut n b
  | .home | .yieldTo _ => s

/-- The DONE of an order of a run, or its judgement as done (R74, R86). With no job left for it the
hand settles what the arm becomes. -/
def State.orderDone (x : ArmId) (o : Order) (s : State) : State :=
  let s := s.orderEffect x o
  match s.armJob x with
  | some (n, j) => s.legDone x n j o
  | none => s.giveBackArm x

/-- The grant that a YIELD served is withdrawn: a job with its reel not yet in hand becomes WAITING and
gives back its bays; one with its reel in hand goes on waiting (R79; assumption log 12). -/
def State.withdrawGrant (x : ArmId) (s : State) : State :=
  match s.armJob x with
  | none => s
  | some (n, j) =>
    let a := s.arm x
    if j.state = .assigned && a.nextOrder.isSome && a.hand.isEmpty then
      s.settleOr n fun s => ((s.giveBackBays n).setJobState n .waiting).releaseArm n
    else s

/-! ### Disabling with the job's part (R87) -/

/-- An arm is disabled: its job is HELD ARM_LOST when the hand is LOADED, and otherwise gives the arm
back and becomes WAITING (R87). A YIELD that was kept for it will not be made, and the grant it served is
withdrawn (DEDUCED, assumption log 12). -/
def State.disable (x : ArmId) (s : State) : State :=
  let yielding := s.yielding x
  let s := s.disableCore x
  match s.armJob x with
  | none => if yielding then s.withdrawGrant (otherArm x) else s
  | some (n, _) =>
    if (s.arm x).hand.isEmpty then
      s.settleOr n fun s =>
        (((s.releaseArm n).giveBackBays n).updateJob n fun j => { j with retryUsed := false })
          |>.setJobState n .waiting
    else s.setJobState n (.held .armLost)

/-! ### Bays for a reel in hand (R82, R84, R97) -/

/-- The arm's claim could be formed for these legs: inside the claim it holds, or by an extension that
keeps the rule, or by a yield of the other arm (R77; assumption log 20). -/
def State.canReach (s : State) (x : ArmId) (legs : List Leg) (volume : Option Nat) : Bool :=
  let need := s.neededSpan x legs volume
  (s.arm x).covers need || s.keepsRule x need || ((s.yieldPosition x need).isSome && s.isIdle (otherArm x))

/-- Points a job's ring legs at a bay. -/
def Leg.retarget (b : RingBay) : Leg → Leg
  | .ringPut _ => .ringPut b
  | .ringTake _ => .ringTake b
  | g => g

/-- The legs of a job that are done, followed by a HATCH_PUT as its one remaining leg (R82). -/
def Job.thenHatch (j : Job) (b : Option HatchBay) : Job :=
  let done := j.legs.take j.leg
  { j with hatchBay := b, legs := done ++ [.hatchPut b], leg := done.length }

/-- A job with its reel in an arm's hand takes a FREE hatch bay within the arm's reach: it is reserved,
the job is ASSIGNED and its HATCH_PUT goes there (R82, R84, R97). The put to another bay has its own retry:
retry used becomes clear (DESIGN CHOICE, assumption log 49). -/
def State.takeHatch (n : Nat) (x : ArmId) (s : State) (b : HatchBay) : Option State :=
  match s.job? n with
  | none => none
  | some j =>
    if s.station.hatch.get b = .free && (s.map.hatchPositions.get b).isSome &&
        s.canReach x [.hatchPut (some b)] j.volume then
      let s := (s.setHatch b (.reserved (j.ref n))).updateJob n fun j =>
        { j.thenHatch (some b) with retryUsed := false }
      some ((s.setJobState n .assigned).tryGo x)
    else none

/-- A job with its reel in an arm's hand takes a FREE ring bay within the arm's reach (R84, R97). The put
retargeted to it has its own retry: retry used becomes clear (DESIGN CHOICE, assumption log 49). -/
def State.takeRing (n : Nat) (x : ArmId) (s : State) (b : RingBay) : Option State :=
  match s.job? n with
  | none => none
  | some j =>
    if s.station.ring.get b = .free && (s.map.ringPositions.get b).isSome &&
        s.canReach x [.ringPut b] j.volume then
      let s := (s.setRing b (.reserved (j.ref n))).updateJob n fun j =>
        { j with ringBay := some b, legs := j.legs.map (Leg.retarget b), retryUsed := false }
      some ((s.setJobState n .assigned).tryGo x)
    else none

/-- The claim of a MOVING arm whose job is held with it for want of a bay becomes the span of its position and
the reel's home (R82), formed by R77: where that goes beyond the claim and does not keep the rule of R76, as an
arm back from DISABLED may find it (R88), the arm keeps its claim and waits for the extension (DEDUCED,
assumption log 67). -/
def State.claimHome (n : Nat) (x : ArmId) (s : State) : State :=
  if (s.arm x).state = .moving then
    s.formClaim x (s.neededSpan x [] ((s.job? n).bind Job.volume)) id id
  else s

/-- A job is held for want of a bay and keeps its arm (R82, R84). -/
def State.holdWithArm (n : Nat) (x : ArmId) (reason : HoldReason) (s : State) : State :=
  ((s.setJobState n (.held reason)).updateArm x fun a => { a with nextOrder := none }).claimHome n x

/-- Looks for a FREE hatch bay for a reel in hand, lowest number first as R96 has it for a run (DEDUCED,
assumption log 77), and holds the job HATCH_FULL when there is none within reach (R82, R84). -/
def State.seekHatch (n : Nat) (x : ArmId) (s : State) : State :=
  match allHatchBays.findSome? (State.takeHatch n x s) with
  | some s => s
  | none =>
    (s.updateJob n fun j => j.thenHatch none).holdWithArm n x .hatchFull

/-- Looks for a FREE ring bay for a reel in hand, lowest number first (DEDUCED, assumption log 77), and holds the
job RING_FULL when there is none within reach (R84). -/
def State.seekRing (n : Nat) (x : ArmId) (s : State) : State :=
  match allRingBays.findSome? (State.takeRing n x s) with
  | some s => s
  | none => (s.updateJob n fun j => { j with ringBay := none }).holdWithArm n x .ringFull

/-- A job held with its arm for want of a bay is judged again (R82, R97), and with no bay in reach the arm's
claim is formed again (R77). -/
def State.retryHeld (n : Nat) (x : ArmId) (s : State) : State :=
  match s.job? n with
  | some j =>
    if j.state = .held .hatchFull then
      (allHatchBays.findSome? (State.takeHatch n x s)).getD (s.claimHome n x)
    else if j.state = .held .ringFull then
      (allRingBays.findSome? (State.takeRing n x s)).getD (s.claimHome n x)
    else s
  | none => s

/-! ### Faults (R75, R80 to R84) -/

/-- What an error about the target of an order of a job's run names: the arm, the job, the volume and the
target (R80, R81, R82, R84); what R80 to R84 do not name is absent (DESIGN CHOICE, assumption log 64). -/
def targetFields (x : ArmId) (n : Nat) (volume : Option Nat) (o : Order) : ErrorFields :=
  { arm := some x, job := some n, volume := volume
    drive := match o with
      | .load d | .pull d => some d
      | _ => none
    detail := match o with
      | .fetch c | .stow c => some (.cell c)
      | .ringPut b | .ringTake b => some (.bay (.ring b))
      | .hatchPut b | .hatchTake b => some (.bay (.hatch b))
      | _ => none }

/-- The prompt a take given up after its retry leaves (R80). -/
def State.postReelCheck (n : Nat) (o : Order) (s : State) : State :=
  let serial := (s.job? n).bind Job.serial
  s.postForJob n .checkReel
    (match o with
      | .fetch c => { serial := serial, cell := some c }
      | .pull d => { serial := serial, drive := some d }
      | .ringTake b => { serial := serial, bay := some (.ring b) }
      | .hatchTake b => { serial := serial, bay := some (.hatch b) }
      | _ => { serial := serial })

/-- A take that misgrips, or finds no reel at a drive or bay: retried once, then given up with the job
HELD REEL_CHECK (R80). -/
def State.takeFault (x : ArmId) (n : Nat) (j : Job) (o : Order) (s : State) : State :=
  let s :=
    match o, j.retryUsed, j.volume with
    | .fetch _, true, some v => s.updateVolume v fun e => { e with suspect := true }
    | _, _, _ => s
  s.settleOr n fun s =>
    if j.retryUsed then
      (((s.setJobState n (.held .reelCheck)).giveBackBays n).releaseArm n).postReelCheck n o
    else (s.updateJob n fun j => { j with retryUsed := true }).dispatch x o

/-- A FETCH that finds its cell empty (R81). -/
def State.emptyCell (n : Nat) (j : Job) (c : Cell) (s : State) : State :=
  let s := match j.volume with
    | some v =>
      if (s.volume? v).map Volume.location = some Location.cell then s.moveVolume v .uncertain else s
    | none => s
  s.settleOr n fun s =>
    (((s.setJobState n (.held .uncertain)).giveBackBays n).releaseArm n).postForJob n .verifyVolume
      { serial := j.serial, cell := some c }

/-- The report of a LOAD that cannot be made: a drive RESERVED for this job goes to SERVICE (R25). -/
def State.driveRefuses (n : Nat) (d : DriveId) (s : State) : State :=
  if (s.drive d).state = .reserved && (s.drive d).job = some n then s.enterService d else s

/-- A LOAD that faults OCCUPIED or REFUSED (R25, R83). A CLEAN job whose LOAD is given up is turned home without
a CANCEL, and ends CANCELLED once its cleaner is stowed (`Job.stowFrame`). A job already turned home goes on to its STOW, and the
drive is told of an OCCUPIED or of a second REFUSED as for any other (assumption log 16). -/
def State.loadFault (x : ArmId) (n : Nat) (j : Job) (d : DriveId) (occupied : Bool) (s : State) :
    State :=
  if j.driveGone then (s.turnHome n).tryGo x
  else if j.currentOrder ≠ some (.load d) then
    ((if occupied || j.retryUsed then s.driveRefuses n d else s).updateJob n fun j =>
      { j with retryUsed := false }).tryGo x
  else if !occupied && !j.retryUsed then
    (s.updateJob n fun j => { j with retryUsed := true }).dispatch x (.load d)
  else
    let s := s.driveRefuses n d
    let s :=
      if j.kind = .mount then
        s.sendFailure n (.mountFailed (if occupied then .driveOccupied else .driveRefused))
      else s
    (s.turnHome n).tryGo x

/-- A RING_PUT that faults OCCUPIED: the bay holds an unknown reel, and the put goes to another bay or
the job is HELD RING_FULL (R84, R101). -/
def State.ringPutFault (x : ArmId) (n : Nat) (j : Job) (b : RingBay) (s : State) : State :=
  let s := (s.setRing b .unknown).updateJob n fun j => { j with ringBay := none }
  let s := s.post (.library b) .checkReel { bay := some (.ring b) } false
  if j.currentOrder ≠ some (.ringPut b) then s.tryGo x else s.seekRing n x

/-- A HATCH_PUT that faults OCCUPIED: the bay holds an unknown reel, and the put goes to another bay or
the job is HELD HATCH_FULL (R84, R101). -/
def State.hatchPutFault (x : ArmId) (n : Nat) (j : Job) (b : HatchBay) (s : State) : State :=
  let s := (s.setHatch b .unknown).updateJob n fun j => { j with hatchBay := none }
  let s := s.postTakeFromHatch b none none none
  if j.currentOrder ≠ some (.hatchPut b) then s.tryGo x else s.seekHatch n x

/-! ### Yields (R79) -/

/-- An arm that waited for a yield, once it is done: its span is formed again, and its order is sent when the
span keeps the rule; otherwise the grant is withdrawn (R79). -/
def State.afterYield (y : ArmId) (s : State) : State :=
  match s.armJob y with
  | none => s
  | some (_, j) => if s.keepsRule y (s.neededSpan y j.run j.volume) then s.tryGo y else s.withdrawGrant y

/-- The DONE of a YIELD: the yielding arm becomes IDLE, and the chosen arm's span is formed again (R79). -/
def State.yieldDone (x : ArmId) (s : State) : State :=
  let s :=
    if (s.arm x).state = .moving then
      s.updateArm x fun a => { a with state := .idle, claim := pointClaim a.place }
    else s
  let y := otherArm x
  match s.armJob y with
  | none => s
  | some (n, j) =>
    let a := s.arm y
    if a.state = .moving && a.inFlight.isNone && a.nextOrder.isSome && j.state = .assigned then
      if a.hand.isEmpty then s.settleOr n (State.afterYield y) else s.afterYield y
    else s

/-! ### Rehoming (R85) and the STOPPED faults (R92) -/

/-- An order is kept as interrupted, unless it is a YIELD, whose grant is withdrawn (R72, R79, R85). -/
def State.interrupt (x : ArmId) (o : Order) (how : Interruption) (s : State) : State :=
  if o.isYield then s.withdrawGrant (otherArm x)
  else s.updateArm x fun a => { a with interrupted := some { order := o, how := how } }

/-- An arm whose order was blocked or timed out is rehomed; one in library homing is homed by that
(R85, R93). -/
def State.rehomeAfter (x : ArmId) (o : Order) (s : State) : State :=
  let s := s.interrupt x o .faulted
  if (s.arm x).state = .homing then s.homeIfDue x else s.rehome x false

/-- A FAULT handled as BLOCKED, or BLOCKED itself (R75, R85); of a HOME it disables the arm (R87). The entry's
one further value holds both the order kind and the position that R85 names, and where R75 and R87 give the
cause as detail the cause alone (DESIGN CHOICE, assumption log 64). -/
def State.blocked (x : ArmId) (tag : Nat) (o : Order) (position : Nat) (cause : FaultCause)
    (s : State) : State :=
  let detail := if o ≠ .home && cause = .blocked then .orderAt o.kind position else .cause cause
  let s := s.logError .travelBlocked .library { arm := some x, tag := some tag, detail := some detail }
  if o = .home then s.disable x else (s.rehomeAfter x o).settleAtFault x

/-! ### The DONE of a HOME (R86, R88, R93) -/

/-- What the removal of an arm's reel by hand does to the arm's job (R90). A job whose own reel the hand
did not hold goes back to WAITING, since a reel the map does not know ends no job. -/
def State.jobReelRemoved (n : Nat) (j : Job) (known : Bool) (s : State) : State :=
  if !known then
    ((s.giveBackBays n).updateJob n fun j => { j with retryUsed := false }).setJobState n .waiting
      |>.releaseArm n
  else if j.cancelled || j.returning then
    s.endJob n (if j.kind = .demount then some .demountComplete else none)
  else
    match j.kind with
    | .mount => ((s.giveBackBays n).releaseArm n).holdEval n
    | .demount => s.endJob n (some .demountComplete)
    | .eject | .enter => s.endJob n (some (.moveFailed .armLost))
    | .clean => s.endJob n none

/-- The reel in an arm's hand is taken out by hand: a known volume moves to SHELF, the job goes on or
ends, and the arm has no job (R90). -/
def State.reelRemoved (x : ArmId) (s : State) : State :=
  let v := (s.arm x).hand.volume?
  let job := s.armJob x
  let s := s.letGo x .shelf
  let s := match job with
    | some (n, j) => s.jobReelRemoved n j v.isSome
    | none => s
  s.updateArm x fun a => { a with job := none }

/-- A job whose current leg is a put for which it holds no bay: one that was HELD HATCH_FULL or RING_FULL
before its arm was disabled. -/
def Job.lacksBay (j : Job) : Bool :=
  match j.currentLeg with
  | some (.hatchPut none) => true
  | some (.ringPut _) => j.ringBay.isNone
  | _ => false

/-- What a HOME's DONE judges: the interrupted order, or the current leg of a job HELD ARM_LOST as an
order that faulted, but for a put without a bay (R86, R88, R93). -/
def State.judged (s : State) (x : ArmId) : Option Interrupted :=
  match (s.arm x).interrupted with
  | some i => some i
  | none =>
    match s.armJob x with
    | some (_, j) =>
      if j.state = JobState.held .armLost && !j.lacksBay then
        j.currentOrder.map fun o => { order := o, how := Interruption.faulted }
      else none
    | none => none

/-- An interrupted order judged not done: it is sent again, using the job's retry unless it was STOPPED;
a second send disables the arm (R86, R93). -/
def State.sendAgain (x : ArmId) (i : Interrupted) (s : State) : State :=
  match s.armJob x with
  | none => s.giveBackArm x
  | some (n, j) =>
    let again := fun s : State =>
      if j.toBeTurned || j.driveGone then (s.turnHome n).tryGo x
      else if j.currentOrder ≠ some i.order then
        (s.updateJob n fun j => { j with retryUsed := false }).tryGo x
      else if i.how = .stopped then s.tryGo x
      else if j.retryUsed then s.disable x
      else (s.updateJob n fun j => { j with retryUsed := true }).tryGo x
    if i.order.isTake then s.settleOr n again else again s

/-- The hand a HOME reports, when no order is judged: a reel already recorded stays so, and one that was
not is a reel the map does not place (R68, R86). -/
def reportedHand (before : Hand) (loaded : Bool) : Hand :=
  match loaded, before with
  | false, _ => .empty
  | true, .loaded v => .loaded v
  | true, .empty => .loaded none

/-- A job resumed from ARM_LOST whose put has no bay (R88): the put that is to be sent again asks for a bay
again, and a hand found EMPTY has had its reel taken out by hand, as by REMOVED (assumption log 53). -/
def State.resumeBayless (x : ArmId) (n : Nat) (j : Job) (loaded : Bool) (s : State) : State :=
  if !loaded then s.reelRemoved x
  else if j.toBeTurned then (s.turnHome n).tryGo x
  else
    match j.currentLeg with
    | some (.ringPut _) => s.seekRing n x
    | _ => s.seekHatch n x

/-- An arm that comes out of a HOME with nothing to judge (R86, R88, R93). A reel reported in a hand that
was recorded EMPTY is one that no job accounts for. -/
def State.homedUnjudged (x : ArmId) (before : Hand) (loaded : Bool) (s : State) : State :=
  let s := s.setHand x (reportedHand before loaded)
  match s.armJob x with
  | none => s.giveBackArm x
  | some (n, j) =>
    if loaded && before.isEmpty then s.disable x
    else
      let resume := fun s : State =>
        if j.state = .assigned then s.tryGo x
        else if (s.arm x).state = .homing then s
        else s.retryHeld n x
      if loaded then resume s else s.settleOr n resume

/-- A job HELD ARM_LOST becomes ASSIGNED again with its arm, with a fresh retry (R88). -/
def State.resumeLost (x : ArmId) (s : State) : State :=
  match s.armJob x with
  | some (n, j) =>
    if j.state = JobState.held .armLost then
      (s.setJobState n .assigned).updateJob n fun j => { j with retryUsed := false }
    else s
  | none => s

/-- What a HOME's DONE settles for the arm, whose hand was `before`: the judged order, a resumed put without
a bay, or nothing to judge (R86, R88, R93). -/
def State.homeJudged (x : ArmId) (before : Hand) (loaded : Bool) (s : State) : State :=
  let judged := s.judged x
  let lost := s.armJob x |>.filter fun e => e.2.state = JobState.held .armLost
  let s := (s.updateArm x fun a => { a with interrupted := none }).resumeLost x
  match judged, lost with
  | some i, _ =>
    if i.order.isTake = loaded then s.orderDone x i.order
    else (s.setHand x (reportedHand before loaded)).sendAgain x i
  | none, some (n, j) =>
    if j.lacksBay && !before.isEmpty then s.resumeBayless x n j loaded
    else s.homedUnjudged x before loaded
  | none, none => s.homedUnjudged x before loaded

/-- A YIELD that was kept stays the arm's next order, and an IDLE arm becomes MOVING for it (R71, R79). -/
def State.keepYield (x : ArmId) (kept : Option Order) (s : State) : State :=
  match kept with
  | some (.yieldTo p) =>
    if (s.arm x).state = .idle then s.giveYield x p
    else if (s.arm x).state = .homing then s.updateArm x fun a => { a with nextOrder := some (.yieldTo p) }
    else s
  | _ => s

/-- The DONE of a HOME (R86, R88, R93). A HOMING arm whose own HOME is still due, or that the door has
stopped, is judged in the same way and stays HOMING (R173, R177; assumption log 17). -/
def State.homeDone (x : ArmId) (loaded : Bool) (s : State) : State :=
  let a := s.arm x
  let stays := a.state = .homing && (a.homeDue || !s.mode.isHoming)
  let s := if stays then s else s.updateArm x fun a =>
    { a with
      state := .moving, nextOrder := none
      claim := if a.state = .homing then pointClaim a.place else a.claim }
  ((s.homeJudged x a.hand loaded).evalArmState).keepYield x a.nextOrder

/-! ### Completions and expiry (R72 to R75) -/

/-- The arm and order in flight that a completion's tag names (R73). -/
def State.inFlightOf (s : State) (tag : Nat) : Option (ArmId × Order) :=
  match (s.arm .a).inFlight, (s.arm .b).inFlight with
  | some f, g => if f.tag = tag then some (.a, f.order) else
      match g with
      | some g => if g.tag = tag then some (.b, g.order) else none
      | none => none
  | none, some g => if g.tag = tag then some (.b, g.order) else none
  | none, none => none

/-- A completion is matched to its order: supervision stops, the order in flight becomes none, and the
positions are set (R73). -/
def State.matched (x : ArmId) (position : Nat) (s : State) : State :=
  s.updateArm x fun a =>
    { a with
      supervision := .stopped, inFlight := none, position := some position, lastKnown := position }

/-- A completion that names no order in flight: late or unknown (R73). UNKNOWN_COMPLETION names the tag alone,
which has no place in the entry when it is above 15 (DESIGN CHOICE, assumption log 65). -/
def State.unmatched (tag : Nat) (done : Bool) (s : State) : State :=
  let late := fun x : ArmId => (s.arm x).lastTimedOut = some tag
  if late .a then
    s.logError .lateCompletion .link
      { arm := some .a, tag := some tag, detail := some (.outcome done) }
  else if late .b then
    s.logError .lateCompletion .link
      { arm := some .b, tag := some tag, detail := some (.outcome done) }
  else s.logError .unknownCompletion .link { tag := (inRange 16 tag).map Fin.val }

/-- The handling of a matched DONE (R74, R79, R86, R93). -/
def State.doneOf (x : ArmId) (o : Order) (loaded : Bool) (s : State) : State :=
  match o with
  | .home => (s.homeDone x loaded).homeIfDue x
  | .yieldTo _ => (s.yieldDone x).homeIfDue x
  | o => (s.orderDone x o).homeIfDue x

/-- A FAULT STOPPED taken in SAFE (R92): a HOME is sent again at library homing, and any other order is
interrupted. -/
def State.stopped (x : ArmId) (o : Order) (s : State) : State :=
  if o = .home then s else (s.interrupt x o .stopped).settleAtFault x

/-- The handling of a matched FAULT of an order of a job's run that is not BLOCKED or STOPPED, by its
cause and class; none when it is handled as BLOCKED (R75, R80 to R84). -/
def State.classFault (x : ArmId) (o : Order) (cause : FaultCause) (s : State) : Option State :=
  match s.armJob x with
  | none => none
  | some (n, j) =>
    let f := targetFields x n j.volume o
    let held := targetFields x n (s.arm x).hand.volume? o
    let refused : ErrorFields := { f with volume := none, detail := some (.cause cause) }
    match o, cause with
    | .fetch c, .noReel => some ((s.logError .noReel .job f).emptyCell n j c)
    | .fetch _, .misgrip | .pull _, .misgrip | .ringTake _, .misgrip | .hatchTake _, .misgrip =>
      some ((s.logError .misgrip .job f).takeFault x n j o)
    | .pull _, .noReel | .ringTake _, .noReel | .hatchTake _, .noReel =>
      some ((s.logError .noReel .job f).takeFault x n j o)
    | .stow c, .occupied =>
      let s := s.logError .cellOccupied .job held
      some ((s.updateJob n fun j => { j with disposal := .stowFault c }).seekHatch n x)
    | .load d, .occupied => some ((s.logError .driveRefused .job refused).loadFault x n j d true)
    | .load d, .refused => some ((s.logError .driveRefused .job refused).loadFault x n j d false)
    | .ringPut b, .occupied => some ((s.logError .cellOccupied .job held).ringPutFault x n j b)
    | .hatchPut b, .occupied => some ((s.logError .cellOccupied .job held).hatchPutFault x n j b)
    | _, _ => none

/-- The handling of a matched FAULT (R75, R92). A STOPPED order with the door closed has no STOP to
answer and is handled as BLOCKED. -/
def State.faultOf (x : ArmId) (tag : Nat) (o : Order) (position : Nat) (cause : FaultCause)
    (s : State) : State :=
  let s :=
    if cause = .stopped && s.mode.isSafe then s.stopped x o
    else
      match s.classFault x o cause with
      | some s => s
      | none => s.blocked x tag o position cause
  s.homeIfDue x

/-- The supervision timer of an arm's order expires (R72, R85, R87). REHOME_TIMEOUT, for which R87 names no
field, names the arm and the tag as MOTION_TIMEOUT does (DESIGN CHOICE, assumption log 64). -/
def State.motionExpired (x : ArmId) (tag : Nat) (o : Order) (s : State) : State :=
  let s := s.logError .motionTimeout .library
    { arm := some x, tag := some tag, detail := some (.order o.kind) }
  let s := s.updateArm x fun a =>
    { a with
      lastTimedOut := some tag, inFlight := none, position := none, supervision := .stopped }
  if o = .home then
    (s.logError .rehomeTimeout .library { arm := some x, tag := some tag }).disable x
  else s.rehomeAfter x o

end Sys2Proof.Machine
end

