-- ==== Sys2Proof/Machine/Schedule.lean ====
section
/-!
DEFINITION. The Scheduler and Mode Control: forming and granting runs, offering free bays, mode changes,
library homing and the quiesce condition, and what follows every event (R39, R60, R78, R93, R96 to R98,
R170, R173, R175).
-/

namespace Sys2Proof.Machine

/-! ### Forming a run (R60, R96, R98) -/

/-- The FREE ring bays whose position is set, ascending (R96). -/
def State.freeRings (s : State) : List RingBay :=
  allRingBays.filter fun b => s.station.ring.get b = .free && (s.map.ringPositions.get b).isSome

/-- The FREE hatch bays whose position is set, ascending (R96). -/
def State.freeHatches (s : State) : List HatchBay :=
  allHatchBays.filter fun b => s.station.hatch.get b = .free && (s.map.hatchPositions.get b).isSome

/-- One way of forming a run: the legs left to the job, and the bay to reserve. -/
structure RunOption where
  legs : List Leg
  ring : Option RingBay := none
  hatch : Option HatchBay := none
  deriving DecidableEq, Repr

/-- A MOUNT to write on a volume whose ring is OUT needs a ring fit (R98). R98 says as well that a CLEAN
volume is never routed to the ring station, under ring removal; a write mount that names one is fitted like
any other, since no LOAD may come before its fit (DESIGN CHOICE, assumption log 50). -/
def needsFit (j : Job) (v : Volume) : Bool := j.intent = .write && v.ring = .ringOut

/-- A reel pulled to go home with its ring IN needs ring removal; a CLEAN volume does not (R98). -/
def needsRemoval (v : Volume) : Bool := v.ring = .ringIn && v.pool ≠ .cleanPool

/-- The ways to form a job's next run, in the order in which they are proposed (R60, R96, R98). A run
that begins at FETCH or PULL takes its ring decision again; any other keeps the legs decided. -/
def State.runOptions (s : State) (j : Job) : List RunOption :=
  let legs := j.legs.drop j.leg
  let volume := j.volume.bind s.volume?
  match legs with
  | .fetch c :: _ =>
    match j.kind, j.drive, volume with
    | .mount, some d, some v =>
      if needsFit j v then
        s.freeRings.map fun b => { legs := [.fetch c, .ringPut b, .ringTake b, .load d], ring := some b }
      else [{ legs := [.fetch c, .load d] }]
    | .eject, _, _ => s.freeHatches.map fun b => { legs := [.fetch c, .hatchPut (some b)], hatch := some b }
    | _, _, _ => [{ legs := legs }]
  | .pull d :: rest =>
    match rest.getLast?, volume with
    | some (.hatchPut _), _ =>
      s.freeHatches.map fun b => { legs := [.pull d, .hatchPut (some b)], hatch := some b }
    | some (.stow c), some v =>
      (if needsRemoval v then
        s.freeRings.map fun b =>
          { legs := [.pull d, .ringPut b, .ringTake b, .stow c], ring := some b : RunOption }
      else []) ++ [{ legs := [.pull d, .stow c] }]
    | _, _ => [{ legs := legs }]
  | [] => []
  | legs =>
    if (runOf legs).contains (.hatchPut none) then
      s.freeHatches.map fun b =>
        { legs := legs.map fun g => if g = .hatchPut none then .hatchPut (some b) else g, hatch := some b }
    else [{ legs := legs }]

/-! ### Granting a run (R78, R79) -/

/-- An arm qualifies for a run directly or with a yield of the other arm (R78). -/
def State.armQualifies (s : State) (run : List Leg) (volume : Option Nat) (x : ArmId) : Bool :=
  let need := s.neededSpan x run volume
  s.isIdle x &&
    (s.keepsRule x need || (s.isIdle (otherArm x) && (s.yieldPosition x need).isSome))

/-- The arm chosen for a run: the one that qualifies, or of two the nearer to the first target, arm A on
a tie (R78). -/
def State.chooseArm (s : State) (run : List Leg) (volume : Option Nat) : Option ArmId :=
  match s.armQualifies run volume .a, s.armQualifies run volume .b with
  | false, false => none
  | true, false => some .a
  | false, true => some .b
  | true, true =>
    let first := (run.head?.bind (s.legPosition .a)).getD 0
    if distance (s.arm .a).place first ≤ distance (s.arm .b).place first then some .a else some .b

/-- Every target of a run has its position set (R60, step 3). -/
def State.positionsSet (s : State) (x : ArmId) (run : List Leg) : Bool :=
  run.all fun g => (s.legPosition x g).isSome

/-- The mount kind of a job granted a run: RING for a MOUNT whose run fits a ring, ROBOT for one fetched
without (R60, R98). -/
def Job.grantedKind (j : Job) (r : RunOption) : MountKind :=
  match j.kind, r.legs with
  | .mount, .fetch _ :: _ => if r.ring.isSome then .ring else .robot
  | _, _ => j.mountKind

/-- A granted job is ASSIGNED to its arm, with its volume, legs and bays recorded (R60, step 5). -/
def State.recordGrant (n : Nat) (j : Job) (x : ArmId) (r : RunOption) (s : State) : State :=
  (s.updateJob n fun _ =>
    { j with
      arm := some x, legs := r.legs, leg := 0, mountKind := j.grantedKind r
      ringBay := if r.ring.isSome then r.ring else j.ringBay
      hatchBay := if r.hatch.isSome then r.hatch else j.hatchBay }).setJobState n .assigned

/-- The bays of a granted run are reserved for its job (R96). -/
def State.reserveBays (r : RunOption) (k : JobRef) (s : State) : State :=
  let s := match r.ring with
    | some b => s.setRing b (.reserved k)
    | none => s
  match r.hatch with
  | some b => s.setHatch b (.reserved k)
  | none => s

/-- An arm begins a run: it claims its span and is sent the first order, or keeps its claim and waits for
the other arm's yield (R78, R79). -/
def State.startRun (x : ArmId) (k : JobRef) (o : Order) (need : Span) (s : State) : State :=
  if s.keepsRule x need then
    (s.updateArm x fun a => { a with state := .moving, job := some k, claim := some need }).dispatch x o
  else
    let s := s.updateArm x fun a => { a with state := .moving, job := some k, nextOrder := some o }
    match s.yieldPosition x need with
    | some p => s.giveYield (otherArm x) p
    | none => s

/-- Grants a run to an arm (R60 step 5, R78). -/
def State.grant (n : Nat) (j : Job) (x : ArmId) (r : RunOption) (s : State) : State :=
  let s := (s.recordGrant n j x r).reserveBays r (j.ref n)
  let run := runOf r.legs
  match run.head?.bind Leg.order with
  | none => s
  | some o => s.startRun x (j.ref n) o (s.neededSpan x run j.volume)

/-- Proposes a job's run in one way; none when it is refused (R60 steps 3 and 4, R78). -/
def State.propose (n : Nat) (j : Job) (s : State) (r : RunOption) : Option State :=
  let run := runOf r.legs
  if s.positionsSet .a run then
    match s.chooseArm run j.volume with
    | some x => some (s.grant n j x r)
    | none => none
  else none

/-! ### The assignment pass (R60) -/

/-- The kinds of job that are assigned in a mode (R60). -/
def eligible (m : Mode) (k : JobKind) : Bool :=
  match m with
  | .run => true
  | .quiescing => k = .demount || k = .clean || k = .eject
  | _ => false

/-- An arm is IDLE. -/
def State.anyIdle (s : State) : Bool := s.isIdle .a || s.isIdle .b

/-- The pool a job without a volume chooses from, when it chooses one. -/
def Job.poolWanted (j : Job) : Option Pool :=
  if j.volume.isSome then none
  else if j.kind = .clean then some .cleanPool
  else if j.scratch then some .scratchPool
  else none

/-- A job whose pool offers no candidate is held with its prompt (R60, step 1). -/
def State.holdForPool (n : Nat) (j : Job) (s : State) : State :=
  if j.kind = .clean then
    (s.setJobState n (.held .noCleaner)).postForJob n .needCleaner { drive := j.drive }
  else
    (s.setJobState n (.held .noScratch)).postForJob n .needScratch
      { drive := j.drive, account := some (s.accountCode j.account) }

/-- A job considered with the candidate `v` for its volume. -/
def State.withCandidate (s : State) (j : Job) (v : Nat) : Job :=
  let j := { j with volume := some v, serial := s.serialOf v }
  { j with legs := s.mountLegs j, leg := 0 }

/-- The Scheduler considers one job (R60). -/
def State.consider (s : State) (n : Nat) : State :=
  match s.job? n with
  | none => s
  | some j =>
    if s.anyIdle && j.state = .waiting && eligible s.mode j.kind then
      match j.poolWanted with
      | some pool =>
        match s.candidate pool with
        | none => s.holdForPool n j
        | some v =>
          let j := s.withCandidate j v
          ((s.runOptions j).findSome? (State.propose n j s)).getD s
      | none => ((s.runOptions j).findSome? (State.propose n j s)).getD s
    else s

/-- An assignment pass over the WAITING jobs in assignment order (R60). -/
def State.assignmentPass (s : State) : State :=
  (s.inOrder fun j => j.state = .waiting).foldl State.consider s

/-! ### Offering free bays (R97) -/

/-- An ENTER job takes a hatch bay: reserved, MANUAL, with PLACE_IN_HATCH (R52, R105). -/
def State.enterAt (n : Nat) (b : HatchBay) (s : State) : State :=
  match s.job? n with
  | none => s
  | some j =>
    (((s.setHatch b (.reserved (j.ref n))).updateJob n fun j => { j with hatchBay := some b })
      |>.setJobState n .manual).postForJob n .placeInHatch
        { serial := j.serial, bay := some (.hatch b) }

/-- An ENTER asks for a hatch bay: the lowest-numbered FREE one with its position set, or HELD HATCH_FULL
(R52, R96). -/
def State.enterBay (n : Nat) (s : State) : State :=
  match s.freeHatches with
  | b :: _ => s.enterAt n b
  | [] => s.setJobState n (.held .hatchFull)

/-- One offer of a ring bay to the jobs HELD RING_FULL, in assignment order (R97). -/
def State.offerRing (s : State) (b : RingBay) : State :=
  let try1 := fun n => match (s.job? n).bind Job.arm with
    | some x => s.takeRing n x b
    | none => none
  ((s.inOrder fun j => j.state = .held .ringFull).findSome? try1).getD s

/-- One offer of a hatch bay: the jobs HELD HATCH_FULL that hold an arm, then the first ENTER so held
(R97). -/
def State.offerHatch (s : State) (b : HatchBay) : State :=
  let held := s.inOrder fun j => j.state = .held .hatchFull
  let try1 := fun n => match (s.job? n).bind Job.arm with
    | some x => s.takeHatch n x b
    | none => none
  match held.findSome? try1 with
  | some s => s
  | none =>
    if s.station.hatch.get b = .free && (s.map.hatchPositions.get b).isSome then
      match held.find? fun n => (s.job? n).any fun j => j.kind = .enter && j.arm.isNone with
      | some n => s.enterAt n b
      | none => s
    else s

/-- The ring bays that have become FREE since `before`. -/
def State.freedRings (s before : State) : List RingBay :=
  allRingBays.filter fun b => s.station.ring.get b = .free && before.station.ring.get b ≠ .free

/-- The hatch bays that have become FREE since `before`. -/
def State.freedHatches (s before : State) : List HatchBay :=
  allHatchBays.filter fun b => s.station.hatch.get b = .free && before.station.hatch.get b ≠ .free

/-- Offers the bays that have become FREE (R97): ring bays before hatch bays, each kind ascending (DESIGN
CHOICE, assumption log 76). -/
def State.offerBays (before s : State) : State :=
  let rings := s.freedRings before
  let hatches := s.freedHatches before
  hatches.foldl State.offerHatch (rings.foldl State.offerRing s)

/-! ### Waiting arms (R77, R97) -/

/-- An arm that waits tries again, and so does a job held with it for want of a bay. -/
def State.retryOne (x : ArmId) (s : State) : State :=
  match s.armJob x with
  | some (n, j) => if j.state = .assigned then s.retryArm x else s.retryHeld n x
  | none => s

/-- The claim of an arm differs from what it was. -/
def State.claimChanged (s before : State) (x : ArmId) : Bool := (s.arm x).claim ≠ (before.arm x).claim

/-- An arm that waits tries again when the other arm's claim has changed since `before` (R77). -/
def State.retryAfter (before : State) (x : ArmId) (s : State) : State :=
  if s.claimChanged before (otherArm x) then s.retryOne x else s

/-! ### Mode changes (R39, R92, R93, R170) -/

/-- The sweep of one drive at an entry to RUN (R39). -/
def State.sweepDrive (s : State) (d : DriveId) : State :=
  let e := s.drive d
  if e.configured && e.job.isNone then
    match e.state with
    | .cleanDue => s.create d .clean
    | .awaitingPull => if e.autoDemount then s.create d .demount else s
    | .cleaning =>
      if e.cleaningTimer = .stopped then
        s.updateDrive d fun e => { e with cleaningTimer := .running s.policy.cleaningTicks }
      else s
    | _ => s
  else s

/-- An arm that library homing homes: neither DISABLED nor PARKED (R93). -/
def Arm.isHomed (a : Arm) : Bool := a.state ≠ .disabled && a.state ≠ .parked

/-- An arm at the entry to HOMING: its claim is unset, its HOME is due, and a held rehoming HOME is replaced
by it; any other held order stays held (R71, R93). The claim it held goes on bounding the other arm, grown to
its own end of the rail (assumption log 66). -/
def Arm.beginHoming (x : ArmId) (a : Arm) : Arm :=
  let a := { a with supervision := a.supervision.resume }
  if a.isHomed then
    { a with
      state := .homing, claim := none, homeDue := true
      heldClaim := if a.claim.isSome then a.extendedClaim x else a.heldClaim
      nextOrder := if a.nextOrder = some .home then none else a.nextOrder }
  else a

/-- Library homing begins (R93, R177). -/
def State.beginHoming (s : State) : State :=
  ((((s.updateArm .a (Arm.beginHoming .a)).updateArm .b (Arm.beginHoming .b)).evalArmState).homeIfDue .a)
    |>.homeIfDue .b

/-- Arm Control at an entry to SAFE from a mode: STOP once, and supervision suspended (R92). A START from
CONFIGURE sends nothing on the robot link (R171; assumption log 52). -/
def State.enterSafe (old : Mode) (s : State) : State :=
  let hold := fun a : Arm => { a with supervision := a.supervision.hold }
  ((if old = .configure then s else s.emit (.robot .stop)).updateArm .a hold).updateArm .b hold

/-- Held orders are sent as the mode allows (R71, R93), arm A's before arm B's (DESIGN CHOICE, assumption
log 71). -/
def State.resumeArms (s : State) : State := (s.resumeArm .a).resumeArm .b

/-- Quiesce forced after a mode change: cleared when the governing mode becomes QUIESCING from RUN, and
when it becomes QUIESCED or RUN (R174). -/
def forcedAfter (old new : Mode) (forced : Bool) : Bool :=
  if old.governing = new.governing then forced
  else if new.governing = some .quiescing && old.governing ≠ some .run then forced
  else false

/-- The mode changes. A change of the reported mode raises MODE_CHANGE, and a change of the mode itself
is acted on by the blocks told of it (R170). -/
def State.enterMode (m : Mode) (s : State) : State :=
  let old := s.mode
  if m = old then s
  else
    let s := { s with control := { s.control with
      mode := m, quiesceForced := forcedAfter old m s.control.quiesceForced } }
    let s := s.raiseEvent .modeChange (.modeChange m s.control.door)
    if m.itself = old.itself then s
    else
      match m with
      | .homing _ => s.beginHoming
      | .run => (allDrives.foldl State.sweepDrive s).resumeArms
      | .quiescing => s.resumeArms
      | .safe _ => s.enterSafe old
      | .quiesced => s.resumeArms
      | .configure => s

/-- An arm is settled for library homing (R93, R173). -/
def Arm.isSettled (a : Arm) : Bool := a.state ≠ .unhomed && a.state ≠ .homing

/-- HOMING ends when both arms are settled (R173). -/
def State.endHoming (s : State) : State :=
  match s.mode with
  | .homing t =>
    if (s.arm .a).isSettled && (s.arm .b).isSettled then s.enterMode t.mode else s
  | _ => s

/-- The quiesce condition (R175). -/
def State.quiesceCondition (s : State) : Bool :=
  (s.arm .a).inFlight.isNone && (s.arm .b).inFlight.isNone &&
    !(s.work.jobs.any fun e => e.2.state = .assigned) &&
    (s.control.quiesceForced ||
      !(s.work.jobs.any fun e =>
        e.2.state = .waiting && (e.2.kind = .demount || e.2.kind = .clean)))

/-- QUIESCING becomes QUIESCED when the quiesce condition holds (R175). -/
def State.quiesceCheck (s : State) : State :=
  if s.mode = .quiescing && s.quiesceCondition then s.enterMode .quiesced else s

/-! ### What follows an event -/

/-- A job's record without its aging timer, whose running down calls for no pass. -/
def Job.timeless (j : Job) : Job := { j with aging := .stopped }

/-- A job is WAITING and its record is not what it was, its aging timer apart: it has become WAITING, or
has risen (R59, R60). -/
def State.newlyWaiting (s before : State) : Bool :=
  s.work.jobs.any fun e =>
    e.2.state = .waiting && (before.job? e.1).map Job.timeless ≠ some e.2.timeless

/-- An arm has become IDLE since `before`. -/
def State.newlyIdle (s before : State) (x : ArmId) : Bool :=
  (s.arm x).state = .idle && (before.arm x).state ≠ .idle

/-- A job that was on the list has left it (R44). -/
def State.jobEnded (s before : State) : Bool :=
  before.work.jobs.any fun e => (s.job? e.1).map Job.sequence ≠ some e.2.sequence

/-- An assignment pass is due: an arm has become IDLE, a job WAITING or risen, a bay free, a claim has
changed, the mode has entered RUN or QUIESCING (R60), or a job has ended (R44). -/
def State.passDue (before s : State) : Bool :=
  s.newlyIdle before .a || s.newlyIdle before .b || s.newlyWaiting before || s.jobEnded before ||
    !(s.freedRings before).isEmpty || !(s.freedHatches before).isEmpty ||
    s.claimChanged before .a || s.claimChanged before .b ||
    (s.mode.itself ≠ before.mode.itself && s.mode.sendsRuns)

/-- What follows an event: HOMING ends when both arms are settled, freed bays are offered, waiting arms
try again, an assignment pass is made when one is due, and the quiesce condition is evaluated. -/
def State.finish (before s : State) : State :=
  let s := s.endHoming
  let s := State.offerBays before s
  let s := State.retryAfter before .a (State.retryAfter before .b (State.retryAfter before .a s))
  let s := if State.passDue before s then s.assignmentPass else s
  s.quiesceCheck

end Sys2Proof.Machine
end

