-- ==== Sys2Proof/Machine/Mode.lean ====
section
/-!
DEFINITION. Power-on, the warm reset, the access door, START, QUIESCE and the status frames of Mode
Control (R169 to R180, R189).
-/

namespace Sys2Proof.Machine

/-- What a command answers: the part goes on in this state. -/
abbrev Answer := Host.Outcome State Fault Refusal

/-- A management frame is taken from a link whose management-permitted flag is set; from any other it is
answered NOT_PERMITTED and changes nothing (R184). -/
def managed (l : Link) (tag : Nat) (k : FrameKind) (act : State → State) (s : State) : Answer :=
  .next (if (s.intake.get l).permitted then act s else s.respond l tag k .notPermitted)

/-! ### Power-on (R169) -/

/-- POWER_ON: every block takes its power-on values, and the door state is what the door sense line
shows. The queue of commands is the model's own and is kept. -/
def execPowerOn (door : DoorState) (s : State) : Answer :=
  .next { State.reset with
    control := { State.reset.control with door := door }
    choices := s.choices, pending := s.pending }

/-! ### The warm reset (R178, R179) -/

/-- A link's intake after a warm reset: empty, with its permission kept (R194). -/
def LinkState.warm (l : LinkState) : LinkState := { l with queue := [], train := none }

/-- A drive entry after a warm reset (R40). -/
def Drive.warm (e : Drive) : Drive :=
  { e with
    state := if e.state = .reserved || e.state = .loading then .empty else e.state
    job := none, loadTimer := .stopped, cleaningTimer := .stopped
    servicePrompt := none, handDemountPrompt := none }

/-- An arm record after a warm reset (R94). -/
def Arm.warm (a : Arm) : Arm :=
  { a with
    state := .unhomed, position := none, hand := .empty, claim := none, heldClaim := none
    inFlight := none, interrupted := none, nextOrder := none, supervision := .stopped
    lastTimedOut := none, job := none, faultPrompt := none, homeDue := false }

/-- A hatch bay after a warm reset (R108). -/
def BayState.warmHatch : BayState → BayState
  | .free | .reserved _ => .free
  | .holding v _ => .holding v none
  | .unknown => .unknown

/-- The mode after a warm reset (R178). -/
def Mode.afterReset (m : Mode) (door : DoorState) : Mode :=
  if m = .configure then .configure
  else
    match door with
    | .closed => .quiesced
    | .opened => .safe .quiesced

/-- Sets a condition class's level without an edge, as a reset does (R202). -/
def State.setLevelQuietly (c : NoticeClass) (level : Bool) (s : State) : State :=
  s.updateNotice c fun n => { n with level := level }

/-- The state each block sets for itself at a warm reset, with nothing sent (R18, R40, R67, R94, R108,
R132, R194, R202). What is not named is kept. -/
def State.warmBlocks (s : State) : State :=
  let loading := fun d => decide ((s.drive d).state = .loading)
  let s := { s with
    intake := s.intake.map LinkState.warm
    map := { s.map with
      volumes := s.map.volumes.map fun (e : Nat × Volume) =>
        (e.1, { e.2 with location := resetLocation loading e.2.location }) }
    drives := s.drives.map Drive.warm
    work := { s.work with jobs := [], owed := Bank.replicate 16 none }
    arms := { s.arms with armA := s.arms.armA.warm, armB := s.arms.armB.warm }
    station := { ring := Bank.replicate 2 .free, hatch := s.station.hatch.map BayState.warmHatch }
    desk := { s.desk with
      prompts := [], consoles := Bank.replicate 2 { area := [], deferred := [] }, owed := [] }
    notices := { s.notices with classes := s.notices.classes.map fun (n : NoticeState) => { n with pending := false } }
    control := { s.control with
      mode := s.mode.afterReset s.control.door, quiesceForced := false } }
  ((s.setLevelQuietly .armState s.armCondition).setLevelQuietly .driveService s.driveCondition)
    |>.setLevelQuietly .recordsHigh s.recordsHigh

/-- A drive left in SERVICE posts its prompt afresh (R40, R132). -/
def State.repostService (s : State) (d : DriveId) : State :=
  if (s.drive d).state = .service then s.postService d else s

/-- A hatch bay left HOLDING posts TAKE_FROM_HATCH afresh (R108, R132). -/
def State.repostHatch (s : State) (b : HatchBay) : State :=
  match s.station.hatch.get b with
  | .holding v _ => s.postTakeFromHatch b (some v) none none
  | .unknown => s.postTakeFromHatch b none none none
  | .free | .reserved _ => s

/-- The warm reset: the blocks' states, the LIBRARY_RESET and CLEAR_ALL frames, the fresh prompts, and
MODE_CHANGE when the reported mode differs (R178, R179). -/
def State.warmReset (cause : ResetCause) (s : State) : State :=
  let old := s.mode
  let s := s.warmBlocks
  let s := allLinks.foldl (fun s l => s.emit (.link l (.libraryReset cause s.mode))) s
  let s := allConsoles.foldl (fun s c => s.tellConsole c .clearAll) s
  let s := allHatchBays.foldl State.repostHatch (allDrives.foldl State.repostService s)
  if s.mode = old then s else s.raiseEvent .modeChange (.modeChange s.mode s.control.door)

/-- RESET_LINE: the reset line goes active; LINE is set and the part is reset (R178, R180). -/
def execResetLine (s : State) : Answer :=
  .next ({ s with causes := { s.causes with line := true } }.warmReset .line)

/-- RESET_WARM: answered ACCEPTED, then FRAME is set and the part is reset (R178, R180). -/
def execResetWarm (l : Link) (tag : Nat) (s : State) : Answer :=
  managed l tag .resetWarm (fun s =>
    let s := s.respond l tag .resetWarm .accepted
    { s with causes := { s.causes with frame := true } }.warmReset .frame) s

/-- CLEAR_RESET_CAUSE clears the three reset cause flags (R180). -/
def execClearResetCause (l : Link) (tag : Nat) (s : State) : Answer :=
  managed l tag .clearResetCause (fun s =>
    { s with causes := { power := false, line := false, frame := false } }
      |>.respond l tag .clearResetCause .accepted) s

/-! ### The access door (R176, R177) -/

/-- The mode after the door opens (R176). -/
def Mode.afterDoorOpen : Mode → Mode
  | .configure => .configure
  | .homing t => .safe t
  | .run => .safe .run
  | .quiescing => .safe .quiescing
  | .quiesced => .safe .quiesced
  | .safe b => .safe b

/-- The mode after the door closes (R177). -/
def Mode.afterDoorClose : Mode → Mode
  | .safe b => .homing b
  | m => m

/-- DOOR_OPEN (R176). -/
def execDoorOpen (s : State) : Answer :=
  let s₁ := { s with control := { s.control with door := .opened } }
  .next (State.finish s (s₁.enterMode s.mode.afterDoorOpen))

/-- DOOR_CLOSE (R177). -/
def execDoorClose (s : State) : Answer :=
  let s₁ := { s with control := { s.control with door := .closed } }
  .next (State.finish s (s₁.enterMode s.mode.afterDoorClose))

/-! ### START and QUIESCE (R171, R174) -/

/-- The mode after an accepted START (R171); RUN itself is refused before. -/
def Mode.afterStart (m : Mode) (door : DoorState) : Mode :=
  match m with
  | .configure => match door with
    | .closed => .homing .run
    | .opened => .safe .run
  | .quiesced => .homing .run
  | .quiescing => .run
  | .safe _ => .safe .run
  | .homing _ => .homing .run
  | .run => .run

/-- START (R171, R172). -/
def execStart (l : Link) (tag : Nat) (s : State) : Answer :=
  managed l tag .start (fun s =>
    if s.mode.governing = some .run then s.respond l tag .start .wrongMode
    else
      match s.startFailure with
      | some item => s.respond l tag .start (.startReject item)
      | none =>
        State.finish s ((s.respond l tag .start .accepted).enterMode (s.mode.afterStart s.control.door))) s

/-- The mode after a QUIESCE under a governing mode of RUN (R174). -/
def Mode.afterQuiesce : Mode → Mode
  | .run => .quiescing
  | .safe _ => .safe .quiescing
  | .homing _ => .homing .quiescing
  | m => m

/-- QUIESCE (R174). -/
def execQuiesce (l : Link) (tag : Nat) (s : State) : Answer :=
  managed l tag .quiesce (fun s =>
    match s.mode.governing with
    | none => s.respond l tag .quiesce .wrongMode
    | some .run =>
      State.finish s ((s.respond l tag .quiesce .accepted).enterMode s.mode.afterQuiesce)
    | some .quiescing =>
      let s₁ := s.respond l tag .quiesce .accepted
      State.finish s { s₁ with control := { s₁.control with quiesceForced := true } }
    | some .quiesced => s.respond l tag .quiesce .accepted) s

/-! ### READ_STATUS (R189) -/

/-- The status snapshot (R189). -/
def State.statusRead (s : State) : StatusRead :=
  { mode := s.mode, quiesceForced := s.control.quiesceForced, door := s.control.door
    causes := s.causes, clock := s.clock.state, pendingTariff := s.accounting.pendingTariff.isSome
    period := s.accounting.period, armA := s.arms.armA.state, armB := s.arms.armB.state
    jobs := s.work.jobs.length, prompts := s.desk.prompts.length, owedPrompts := s.desk.owed.length
    records := s.accounting.records.length, recordsHigh := s.recordsHigh
    drives := s.drives.items.map fun e => (e.state, e.configured, e.draining) }

/-- READ_STATUS (R189). -/
def execReadStatus (l : Link) (tag : Nat) (s : State) : Answer :=
  managed l tag .readStatus (fun s => s.respond l tag .readStatus (.status s.statusRead)) s

end Sys2Proof.Machine
end

