-- ==== Sys2Proof/Machine/Requests.lean ====
section
/-!
DEFINITION. The request frames MOUNT, DEMOUNT, CANCEL and QUERY_VOLUME, and the moves EJECT and ENTER
(R45, R48, R51, R52, R63, R64, R187).
-/

namespace Sys2Proof.Machine

/-- A job of this link has this request tag as its origin. -/
def State.jobByTag (s : State) (l : Link) (tag : Nat) : Option Nat :=
  (s.work.jobs.find fun _ j => j.origin = some { link := l, tag := tag }).map Prod.fst

/-! ### MOUNT (R45, R46) -/

/-- The scratch choice of a MOUNT: bit 0 of its byte 1 (R186). -/
def mountScratch (r : MountRequest) : Bool := r.flags.getLsbD 0

/-- The intent of a MOUNT: bit 1 of its byte 1 (R186). -/
def mountIntent (r : MountRequest) : Intent := if r.flags.getLsbD 1 then .write else .read

/-- The request is well formed (R45, check 2; R186). -/
def State.mountWellFormed (s : State) (l : Link) (tag : Nat) (r : MountRequest) : Bool :=
  r.drive < 16 && r.priority ≤ 3 && r.flags.toNat ≤ 3 &&
    (mountScratch r || serialGood r.serial) &&
    (!mountScratch r || mountIntent r = .write) && (s.jobByTag l tag).isNone

/-- A named volume is free for a MOUNT: named only by jobs taking it home, and at a holder only when one
does (R45, check 7). -/
def State.mountable (s : State) (v : Nat) : Bool :=
  let naming := s.work.jobs.filter fun e => e.2.volume = some v
  (naming.all fun e => e.2.takesHome) &&
    match s.volume? v with
    | some e => !e.location.isHolder || naming.any fun e => e.2.takesHome
    | none => true

/-- The mode admits a MOUNT: its governing mode is RUN (R45, check 1). -/
def Mode.admitsMount (m : Mode) : Bool := m.governing = some .run

/-- The volume a MOUNT names, when its serial is in the map. -/
def State.mountVolume (s : State) (r : MountRequest) : Option Nat :=
  if mountScratch r then none else s.findSerial r.serial

/-- What a MOUNT's checks find (R45): the first refusal, or the drive and the job entry to fill. -/
def State.judgeMount (s : State) (l : Link) (tag : Nat) (r : MountRequest) :
    Except Result (DriveId × Nat) :=
  if !s.mode.admitsMount then .error .wrongMode
  else if !s.mountWellFormed l tag r then .error .badRequest
  else
    match inRange 16 r.drive with
    | none => .error .badRequest
    | some d =>
      let e := s.drive d
      if !e.configured then .error .badDrive
      else if e.draining || e.state = .service || e.state = .cleanDue || e.state = .cleaning then
        .error .driveUnavailable
      else if e.state ≠ .empty || e.job.isSome then .error .driveBusy
      else
        match s.freeJob with
        | none => .error .listFull
        | some n =>
          match s.mountVolume r with
          | some v => if s.mountable v then .ok (d, n) else .error .volumeInUse
          | none => .ok (d, n)

/-- The job an admitted MOUNT becomes (R46). -/
def State.mountJob (s : State) (l : Link) (tag : Nat) (r : MountRequest) (d : DriveId) : Job :=
  let v := s.mountVolume r
  { newJob .mount 0 with
    origin := some { link := l, tag := tag }, drive := some d, volume := v
    serial := if mountScratch r then none else some r.serial, intent := mountIntent r
    mountKind := if mountScratch r || v.isSome then .robot else .foreign
    account := s.accountOf r.account, priority := r.priority, effective := r.priority
    scratch := mountScratch r }

/-- MOUNT (R45 to R47). -/
def execMount (l : Link) (tag : Nat) (r : MountRequest) (s : State) : Answer :=
  match s.judgeMount l tag r with
  | .error e => .next (s.respond l tag .mount e)
  | .ok (d, n) =>
    let s₁ := (s.respond l tag .mount (.acceptedJob n)).addJob n (s.mountJob l tag r d)
    let s₂ := s₁.updateDrive d fun e => { e with state := .reserved, job := some n }
    .next (State.finish s (s₂.holdEval n))

/-! ### DEMOUNT (R48) -/

/-- The String Monitor injects REWIND_UNLOAD, which makes an OCCUPIED drive UNLOADING at once (R30). -/
def State.injectRewind (d : DriveId) (s : State) : State :=
  (s.emit (.string (.rewindUnload d))).updateDrive d fun e =>
    { e with state := if e.state = .occupied then .unloading else e.state }

/-- A DEMOUNT job without an origin that the drive's job field names (R48, check 6). -/
def State.adoptable (s : State) (d : DriveId) : Option Nat :=
  match (s.drive d).job with
  | some n =>
    match s.job? n with
    | some j => if j.kind = .demount && j.origin.isNone then some n else none
    | none => none
  | none => none

/-- What a DEMOUNT's checks find (R48): the first refusal, or the drive and the job to adopt or the entry
to fill. -/
def State.judgeDemount (s : State) (l : Link) (tag drive priority : Nat) :
    Except Result (DriveId × Nat) :=
  if s.mode = .configure then .error .wrongMode
  else if 3 < priority || (s.jobByTag l tag).isSome then .error .badRequest
  else
    match inRange 16 drive with
    | none => .error .badRequest
    | some d =>
      let e := s.drive d
      if !e.configured then .error .badDrive
      else if e.state = .empty || e.state = .reserved || e.state = .cleanDue then
        .error .nothingMounted
      else if e.state = .loading || e.state = .cleaning || e.state = .service then .error .driveBusy
      else
        match s.adoptable d with
        | some n => .ok (d, n)
        | none =>
          if e.job.isSome then .error .driveBusy
          else
            match s.freeJob with
            | none => .error .listFull
            | some n => .ok (d, n)

/-- A DEMOUNT adopts the job the part had made for its drive (R48). -/
def State.adopt (n : Nat) (l : Link) (tag priority : Nat) (s : State) : State :=
  s.updateJob n fun j =>
    { j with
      origin := some { link := l, tag := tag }, priority := max j.priority priority
      effective := max j.effective priority }

/-- The job an admitted DEMOUNT becomes (R48). -/
def State.demountJob (s : State) (l : Link) (tag priority : Nat) (d : DriveId) : Job :=
  let v := s.locatedAt (.drive d)
  { newJob .demount 0 with
    origin := some { link := l, tag := tag }, drive := some d, volume := v
    serial := v.bind s.serialOf
    account := match (s.drive d).occupancy with
      | some o => o.account
      | none => 0
    priority := priority, effective := priority }

/-- A DEMOUNT with the unload option taken for an OCCUPIED drive injects REWIND_UNLOAD (R30, R48). -/
def State.unloadAsked (d : DriveId) (unload : Bool) (s : State) : State :=
  if unload && (s.drive d).state = .occupied then s.injectRewind d else s

/-- A new DEMOUNT job goes on by its drive's state: at once as if UNLOADED had been taken, or in UNLOAD_WAIT
(R48). -/
def State.startDemount (n : Nat) (d : DriveId) (s : State) : State :=
  if (s.drive d).state = .awaitingPull then s.afterUnloaded n d else s.setJobState n .unloadWait

/-- A DEMOUNT removes its drive's owed DEMOUNT creation (R50). -/
def State.dropOwedDemount (d : DriveId) (s : State) : State :=
  if s.work.owed.get d = some .demount then s.setOwed d none else s

/-- DEMOUNT (R48). -/
def execDemount (l : Link) (tag drive : Nat) (unload : Bool) (priority : Nat) (s : State) : Answer :=
  match s.judgeDemount l tag drive priority with
  | .error e => .next (s.respond l tag .demount e)
  | .ok (d, n) =>
    let s₁ := (s.respond l tag .demount (.acceptedJob n)).dropOwedDemount d
    let s₂ :=
      if (s.adoptable d).isSome then s₁.adopt n l tag priority
      else ((s₁.addJob n (s.demountJob l tag priority d)).nameDrive d n).startDemount n d
    .next (State.finish s (s₂.unloadAsked d unload))

/-! ### CANCEL (R63, R64) -/

/-- A CLEAN job that has had its cleaner in the drive: in CLEAN_WAIT or later (R64). From the UNLOADED on,
its legs begin with the PULL. -/
def Job.cleanLoaded (j : Job) : Bool :=
  j.state = .cleanWait || j.state = .manual || match j.legs with
    | .pull _ :: _ => true
    | _ => false

/-- A DEMOUNT in UNLOAD_WAIT or MANUAL, or in WAITING or HELD before its PULL is done (R64). -/
def Job.demountWaits (j : Job) : Bool :=
  let toPull := match j.currentLeg with
    | some (.pull _) => true
    | _ => false
  match j.state with
  | .unloadWait | .manual => true
  | .waiting | .held _ => toPull
  | .assigned | .atRing | .loading | .cleanWait => false

/-- A reel out on its way through the hatch because its cell was found occupied (R82). -/
def Job.stowFaulted (j : Job) : Bool :=
  match j.disposal with
  | .stowFault _ => true
  | _ => false

/-- The positions in which a CANCEL is refused TOO_LATE, for a job whose cancelled flag is clear (R64). A
CLEAN job HELD HATCH_FULL after the HATCH_PUT of its spent cleaner faulted stands both in the table's third
row and in the TOO_LATE list; it is accepted, as the row says (DESIGN CHOICE, assumption log 48). -/
def Job.cancelTooLate (j : Job) : Bool :=
  j.returning || (j.state = .held .hatchFull && j.stowFaulted) || j.state = .held .wrongReel ||
    match j.kind with
    | .demount => !j.demountWaits
    | .clean => j.cleanLoaded && j.state ≠ .held .hatchFull
    | .enter => !(j.state = .held .hatchFull || j.state = .manual)
    | .mount | .eject => false

/-- A job that has still to take its reel from where it stands. -/
def Job.toTake (j : Job) : Bool :=
  match j.currentOrder with
  | some o => o.isTake
  | none => false

/-- An arm holds the reel of this job; what a hand holds before the job's take is done is another's (R86). -/
def State.reelInHand (s : State) (j : Job) : Bool :=
  match j.arm with
  | some x => !(s.arm x).hand.isEmpty && !j.toTake
  | none => false

/-- A job's arm has an order in flight or interrupted, or waits for the other arm's yield. -/
def State.jobBusy (s : State) (j : Job) : Bool :=
  match j.arm with
  | some x =>
    (s.arm x).inFlight.isSome || (s.arm x).interrupted.isSome || s.yielding (otherArm x)
  | none => false

/-- The arm of a job goes on when it has no order in flight. -/
def State.goOn (j : Job) (s : State) : State :=
  match j.arm with
  | some x => s.tryGo x
  | none => s

/-- What an accepted CANCEL does, by where the job's reel stands (R64, R99). -/
def State.actOnCancel (n : Nat) (j : Job) (s : State) : State :=
  let s := s.updateJob n fun j => { j with cancelled := true }
  match j.kind with
  | .demount | .enter => s.endJob n none
  | .mount | .eject | .clean =>
    match j.state with
    | .loading | .unloadWait | .cleanWait => s
    | .atRing =>
      match j.ringBay with
      | some b =>
        ((s.withdrawJobPrompt n fun _ => true).turnHomeFromRing n b).setJobState n .waiting
      | none => s
    | .manual => s.endJob n none
    | .held r =>
      if s.reelInHand j then
        if r = .armLost then s.updateJob n fun j => { j with returning := true }
        else ((s.turnHome n).setJobState n .assigned).goOn j
      else
        match s.reelInRing j n with
        | some b => s.turnHomeFromRing n b
        | none => s.endJob n none
    | .waiting =>
      match s.reelInRing j n with
      | some b => s.turnHomeFromRing n b
      | none => s.endJob n none
    | .assigned =>
      if s.reelInHand j then (s.turnHome n).goOn j
      else
        match s.reelInRing j n with
        | some b => (s.turnHomeFromRing n b).goOn j
        | none => if s.jobBusy j then s else s.endJob n none

/-- Judges a CANCEL for a job that has been found; ACCEPTED carries the job number (R63, R64, R186). -/
def State.cancelJob (l : Link) (tag n : Nat) (s : State) : State :=
  match s.job? n with
  | none => s.respond l tag .cancel .noSuchJob
  | some j =>
    if j.cancelled then s.respond l tag .cancel (.acceptedJob n)
    else if j.cancelTooLate then s.respond l tag .cancel .tooLate
    else State.finish s ((s.respond l tag .cancel (.acceptedJob n)).actOnCancel n j)

/-- CANCEL (R63, R64). -/
def execCancel (l : Link) (tag : Nat) (target : CancelTarget) (s : State) : Answer :=
  match target with
  | .byTag t =>
    match s.jobByTag l t with
    | some n => .next (s.cancelJob l tag n)
    | none => .next (s.respond l tag .cancel .noSuchJob)
  | .byNumber n =>
    if (s.intake.get l).permitted then .next (s.cancelJob l tag n)
    else .next (s.respond l tag .cancel .notPermitted)

/-! ### QUERY_VOLUME (R187) -/

/-- The volume entry as read (R14, R192). -/
def State.volumeRead (s : State) (v : Nat) (e : Volume) : VolumeRead :=
  { index := v, volume := e, job := s.jobNaming v }

/-- The answer to a read of a volume by serial (R14). -/
def State.readSerial (s : State) (serial : Code) : Result :=
  match s.findSerial serial with
  | some v =>
    match s.volume? v with
    | some e => .volume (s.volumeRead v e)
    | none => .noSuchVolume
  | none => .noSuchVolume

/-- QUERY_VOLUME (R187). -/
def execQueryVolume (l : Link) (tag : Nat) (serial : Code) (s : State) : Answer :=
  .next (s.respond l tag .queryVolume
    (if serialGood serial then s.readSerial serial else .badRequest))

/-! ### EJECT and ENTER (R51, R52) -/

/-- Checks 1 to 3 of R51, which EJECT and ENTER share. -/
def State.judgeMove (s : State) (l : Link) (tag : Nat) (serial : Code) (priority : Nat) :
    Except Result (Nat × Volume) :=
  if s.mode = .configure then .error .wrongMode
  else if !serialGood serial || 3 < priority || (s.jobByTag l tag).isSome then .error .badRequest
  else
    match s.findSerial serial with
    | none => .error .noSuchVolume
    | some v =>
      match s.volume? v with
      | some e => .ok (v, e)
      | none => .error .noSuchVolume

/-- The checks of an EJECT (R51): the volume and the job entry to fill. -/
def State.judgeEject (s : State) (l : Link) (tag : Nat) (serial : Code) (priority : Nat) :
    Except Result (Nat × Nat) :=
  match s.judgeMove l tag serial priority with
  | .error e => .error e
  | .ok (v, e) =>
    if e.location = .shelf then .error .notInLibrary
    else if e.location = .uncertain then .error .locationUnknown
    else if e.location ≠ .cell || (s.jobNaming v).isSome then .error .volumeInUse
    else
      match s.freeJob with
      | some n => .ok (v, n)
      | none => .error .listFull

/-- The checks of an ENTER (R52): the volume and the job entry to fill. -/
def State.judgeEnter (s : State) (l : Link) (tag : Nat) (serial : Code) (priority : Nat) :
    Except Result (Nat × Nat) :=
  match s.judgeMove l tag serial priority with
  | .error e => .error e
  | .ok (v, e) =>
    if e.home = .shelf then .error .homeIsShelf
    else if e.location = .cell then .error .alreadyHome
    else if e.location ≠ .shelf || (s.jobNaming v).isSome then .error .volumeInUse
    else
      match s.freeJob with
      | some n => .ok (v, n)
      | none => .error .listFull

/-- The job an admitted EJECT or ENTER becomes (R51, R52). -/
def moveJob (kind : JobKind) (l : Link) (tag : Nat) (serial : Code) (priority v : Nat)
    (legs : List Leg) : Job :=
  { newJob kind 0 with
    origin := some { link := l, tag := tag }, volume := some v, serial := some serial
    priority := priority, effective := priority, legs := legs }

/-- The legs of an EJECT (R51). -/
def State.ejectLegs (s : State) (v : Nat) : List Leg :=
  match s.homeCell v with
  | some c => [.fetch c, .hatchPut none]
  | none => []

/-- EJECT (R51). -/
def execEject (l : Link) (tag : Nat) (serial : Code) (priority : Nat) (s : State) : Answer :=
  managed l tag .eject (fun s =>
    match s.judgeEject l tag serial priority with
    | .error e => s.respond l tag .eject e
    | .ok (v, n) =>
      let s₁ := (s.respond l tag .eject (.acceptedJob n)).addJob n
        (moveJob .eject l tag serial priority v (s.ejectLegs v))
      State.finish s (s₁.setJobState n .waiting)) s

/-- ENTER (R52). -/
def execEnter (l : Link) (tag : Nat) (serial : Code) (priority : Nat) (s : State) : Answer :=
  managed l tag .enter (fun s =>
    match s.judgeEnter l tag serial priority with
    | .error e => s.respond l tag .enter e
    | .ok (v, n) =>
      let s₁ := (s.respond l tag .enter (.acceptedJob n)).addJob n
        (moveJob .enter l tag serial priority v [])
      State.finish s (s₁.enterBay n)) s

end Sys2Proof.Machine
end

