-- ==== Sys2Proof/Machine/VolumeFrames.lean ====
section
/-!
DEFINITION. The management frames that change or read the Volume Map: ADD_VOLUMES, DELETE_VOLUME,
SET_HOME, READ_VOLUME and LOAD_GEOMETRY (R11 to R16).
-/

namespace Sys2Proof.Machine

/-- The response to a frame of items: ACCEPTED with their reports when none is refused, otherwise
TABLE_REJECT with them (R185). -/
def itemsResult (reports : List ItemReport) : Result :=
  if anyRefused reports then .tableReject reports
  else if reports.isEmpty then .accepted
  else .acceptedItems reports

/-! ### ADD_VOLUMES (R11) -/

/-- The column of a home is UNSET outside CONFIGURE (R11, R13). -/
def State.columnUnset (s : State) (h : Home) : Bool :=
  match h with
  | .cell c => (s.cellPosition c).isNone && s.mode ≠ .configure
  | .shelf => false

/-- The home is a cell that is the home of a valid entry. -/
def State.homeTaken (s : State) (h : Home) : Option Nat :=
  match h with
  | .cell c => s.homedAt c
  | .shelf => none

/-- Why an ADD_VOLUMES item is refused, or the entry it fills (R11). -/
def State.judgeAdd (s : State) (i : AddItem) : Except Reason Nat :=
  if !serialGood i.serial || !homeGood i.home then .error .badField
  else if (s.findSerial i.serial).isSome then .error .serialPresent
  else if (s.homeTaken i.home).isSome then .error .homeInUse
  else if s.columnUnset i.home then .error .columnUnset
  else
    match s.map.volumes.firstFree 4096 with
    | some v => .ok v
    | none => .error .mapFull

/-- The entry an accepted item makes (R11). -/
def State.addedVolume (s : State) (i : AddItem) : Volume :=
  { serial := i.serial, home := i.home, pool := i.pool, ring := i.ring
    location := match i.home with
      | .cell _ => .cell
      | .shelf => .shelf
    suspect := false, owner := s.accountOf i.owner
    usesLeft := if i.pool = .cleanPool then i.usesLeft else 0
    mountCount := 0, lastMountDay := none }

/-- Takes one ADD_VOLUMES item (R11). -/
def addItem (position : Nat) (i : AddItem) (s : State) : State × Option ItemReport :=
  match s.judgeAdd i with
  | .error r => (s, some (.refused position r))
  | .ok v =>
    ({ s with map := { s.map with volumes := s.map.volumes.put v (s.addedVolume i) } }, some (.index v))

/-- ADD_VOLUMES (R11), with the availability events its items cause (R10). -/
def execAddVolumes (l : Link) (tag : Nat) (items : List AddItem) (s : State) : Answer :=
  managed l tag .addVolumes (fun s =>
    let (s₁, reports) := takeItems addItem 1 items s
    State.finish s (State.availability s (s₁.respond l tag .addVolumes (itemsResult reports)))) s

/-! ### DELETE_VOLUME and SET_HOME (R12, R13) -/

/-- A volume that a job names or a holder holds may not be deleted or re-homed (R12, R13). -/
def State.volumeBusy (s : State) (v : Nat) (e : Volume) : Option Result :=
  match s.jobNaming v with
  | some n => some (.volumeInUseByJob n)
  | none => if e.location.isHolder then some (.volumeInUseAt e.location) else none

/-- The valid entry of a serial, with its index. -/
def State.volumeOf (s : State) (serial : Code) : Option (Nat × Volume) :=
  (s.findSerial serial).bind fun v => (s.volume? v).map fun e => (v, e)

/-- DELETE_VOLUME (R12). -/
def execDeleteVolume (l : Link) (tag : Nat) (serial : Code) (s : State) : Answer :=
  managed l tag .deleteVolume (fun s =>
    match s.volumeOf serial with
    | none => s.respond l tag .deleteVolume .noSuchVolume
    | some (v, e) =>
      match s.volumeBusy v e with
      | some r => s.respond l tag .deleteVolume r
      | none =>
        { s with map := { s.map with volumes := s.map.volumes.erase v } }
          |>.respond l tag .deleteVolume .accepted) s

/-- Why a SET_HOME is refused, or the entry it changes (R13). A new home equal to the current one is
accepted. -/
def State.judgeSetHome (s : State) (serial : Code) (home : Home) : Except Result (Nat × Volume) :=
  if !homeGood home then .error (.tableRejectReason .badField)
  else
    match s.volumeOf serial with
    | none => .error .noSuchVolume
    | some (v, e) =>
      match s.volumeBusy v e with
      | some r => .error r
      | none =>
        if home = e.home then .ok (v, e)
        else
          match s.homeTaken home with
          | some _ => .error (.tableRejectReason .homeInUse)
          | none =>
            if s.columnUnset home then .error (.tableRejectReason .columnUnset) else .ok (v, e)

/-- The entry after an accepted SET_HOME: a volume located CELL becomes SHELF-located when its new home
is SHELF (R13). -/
def Volume.rehomed (e : Volume) (home : Home) : Volume :=
  { e with
    home := home
    location := if e.location = .cell && home = .shelf then .shelf else e.location }

/-- SET_HOME (R13). -/
def execSetHome (l : Link) (tag : Nat) (serial : Code) (home : Home) (s : State) : Answer :=
  managed l tag .setHome (fun s =>
    match s.judgeSetHome serial home with
    | .error r => s.respond l tag .setHome r
    | .ok (v, _) =>
      let s₁ := s.updateVolume v fun e => e.rehomed home
      State.finish s (State.availability s (s₁.respond l tag .setHome .accepted))) s

/-! ### READ_VOLUME (R14) -/

/-- The answer to a read by index: the valid entry at the lowest index at or above it, or END (R14). An index
above 4095, outside the range R14 names, has no entry at or above it (DESIGN CHOICE, assumption log 68). -/
def State.readIndex (s : State) (start : Nat) : Result :=
  match s.map.volumes.find fun v _ => start ≤ v with
  | some (v, e) => .volume (s.volumeRead v e)
  | none => .endOfMap

/-- READ_VOLUME (R14). -/
def execReadVolume (l : Link) (tag : Nat) (query : VolumeQuery) (s : State) : Answer :=
  managed l tag .readVolume (fun s =>
    s.respond l tag .readVolume
      (match query with
        | .bySerial serial => s.readSerial serial
        | .byIndex start => s.readIndex start)) s

/-! ### LOAD_GEOMETRY (R16) -/

/-- A separation of this value would bring the arms' claims too close (R16). -/
def State.armsTooClose (s : State) (separation : Nat) : Bool :=
  match (s.arm .a).claim, (s.arm .b).claim with
  | some a, some b => decide (b.low < a.high + separation)
  | _, _ => false

/-- The position an item sets, or why it is refused (R16). A value above 1023 is judged before the name
(assumption log 21). -/
def judgePosition (n named value : Nat) : Except Reason (Fin n) :=
  if 1023 < value then .error .outOfRail
  else
    match inRange n named with
    | some i => .ok i
    | none => .error .badField

/-- Takes one LOAD_GEOMETRY item (R16). -/
def geometryItem (position : Nat) (i : GeometryItem) (s : State) : State × Option ItemReport :=
  let refuse := fun r => (s, some (ItemReport.refused position r))
  match i with
  | .column rack column value =>
    if 1023 < value then refuse .outOfRail
    else if 15 < rack || 15 < column then refuse .badField
    else
      ({ s with map := { s.map with columns := s.map.columns.put (columnIndex rack column) value } }, none)
  | .drive d value =>
    match judgePosition 16 d value with
    | .error r => refuse r
    | .ok d =>
      ({ s with map := { s.map with drivePositions := s.map.drivePositions.set d (some value) } }, none)
  | .ringBay b value =>
    match judgePosition 2 b value with
    | .error r => refuse r
    | .ok b =>
      ({ s with map := { s.map with ringPositions := s.map.ringPositions.set b (some value) } }, none)
  | .hatchBay b value =>
    match judgePosition 4 b value with
    | .error r => refuse r
    | .ok b =>
      ({ s with map := { s.map with hatchPositions := s.map.hatchPositions.set b (some value) } }, none)
  | .separation value =>
    let value := clamp 8 64 value
    if s.armsTooClose value then refuse .armsTooClose
    else ({ s with map := { s.map with separation := value } }, none)

/-- LOAD_GEOMETRY (R16). -/
def execLoadGeometry (l : Link) (tag : Nat) (items : List GeometryItem) (s : State) : Answer :=
  managed l tag .loadGeometry (fun s =>
    if s.mode.takesLoads then
      let (s₁, reports) := takeItems geometryItem 1 items s
      s₁.respond l tag .loadGeometry (itemsResult reports)
    else s.respond l tag .loadGeometry .wrongMode) s

end Sys2Proof.Machine
end

