-- ==== Sys2Proof/Machine/Loads.lean ====
section
/-!
DEFINITION. The management frames that load tables and settings: LOAD_DRIVES, LOAD_ACCOUNTS, LOAD_TARIFF,
LOAD_ROUTING and SET_POLICY (R23, R114, R144, R152, R191).
-/

namespace Sys2Proof.Machine

/-! ### LOAD_DRIVES (R23) -/

/-- Takes one LOAD_DRIVES item (R23). The drive service condition is not evaluated again when a draining drive
is unconfigured or configured (R36; DESIGN CHOICE, assumption log 74). -/
def driveItem (position : Nat) (i : DriveItem) (s : State) : State × Option ItemReport :=
  match inRange 16 i.drive, inRange 4 i.driveClass with
  | some d, some k =>
    let e := s.drive d
    if 7 < i.owningLink then (s, some (.refused position .badField))
    else if e.configured && !i.configured && (e.state ≠ .empty || e.job.isSome) then
      (s, some (.refused position .driveBusy))
    else
      (s.updateDrive d fun e =>
        { e with
          configured := i.configured, driveClass := k, owningLink := i.owningLink
          autoDemount := i.autoDemount, threshold := max 1 i.threshold
          cleanInterval := i.cleanInterval }, none)
  | _, _ => (s, some (.refused position .badField))

/-- LOAD_DRIVES (R23). -/
def execLoadDrives (l : Link) (tag : Nat) (items : List DriveItem) (s : State) : Answer :=
  managed l tag .loadDrives (fun s =>
    if s.mode.takesLoads then
      let (s₁, reports) := takeItems driveItem 1 items s
      s₁.respond l tag .loadDrives (itemsResult reports)
    else s.respond l tag .loadDrives .wrongMode) s

/-! ### LOAD_ACCOUNTS (R152) -/

/-- Another entry 1 to 63 holds this code (R152, check 2). -/
def State.codeHeld (s : State) (i : AccountId) (code : Code) : Bool :=
  (List.finRange 64).any fun (k : AccountId) =>
    k ≠ 0 && k ≠ i && (s.accounting.accounts.get k).code = code

/-- A job or an open occupancy names the account (R152, check 3). -/
def State.accountNamed (s : State) (i : AccountId) : Bool :=
  (s.work.jobs.any fun e => e.2.account = i) ||
    allDrives.any fun d => match (s.drive d).occupancy with
      | some o => o.account = i
      | none => false

/-- Why a LOAD_ACCOUNTS item is refused, for an index in range (R152). -/
def State.judgeAccount (s : State) (i : AccountId) (code : Code) (allowance : Nat) : Option Reason :=
  let e := s.accounting.accounts.get i
  let changes := i ≠ 0 && code ≠ e.code
  if !codeGood code then some .badField
  else if i ≠ 0 && code ≠ blankCode && s.codeHeld i code then some .codePresent
  else if changes && (s.accountNamed i || e.closed.isSome || 0 < e.live.unlistedCharge) then
    some .accountBusy
  else if allowance ≠ 0 && allowance < (if changes then 0 else e.live.mountsUsed) then some .belowUsed
  else none

/-- An entry after an accepted item (R152). -/
def Account.loaded (i : AccountId) (code : Code) (allowance : Nat) (e : Account) : Account :=
  if i = 0 then { e with allowance := allowance }
  else
    { e with
      code := code, allowance := allowance
      live := if code = e.code then e.live else Totals.zero }

/-- Takes one LOAD_ACCOUNTS item (R152). -/
def accountItem (position : Nat) (i : AccountItem) (s : State) : State × Option ItemReport :=
  match inRange 64 i.index with
  | none => (s, some (.refused position .badField))
  | some a =>
    match s.judgeAccount a i.code i.allowance with
    | some r => (s, some (.refused position r))
    | none => (s.updateAccount a (Account.loaded a i.code i.allowance), none)

/-- LOAD_ACCOUNTS (R152). -/
def execLoadAccounts (l : Link) (tag : Nat) (items : List AccountItem) (s : State) : Answer :=
  managed l tag .loadAccounts (fun s =>
    let (s₁, reports) := takeItems accountItem 1 items s
    s₁.respond l tag .loadAccounts (itemsResult reports)) s

/-! ### LOAD_TARIFF (R143, R144) -/

/-- The number of the first start, from `i`, that `bad` holds of. -/
def firstStart (bad : Nat → Bool) : (i : Nat) → List Nat → Option Nat
  | _, [] => none
  | i, x :: rest => if bad x then some i else firstStart bad (i + 1) rest

/-- The number of the first start, from `i`, that is not above the one before it. -/
def firstNotAscending : (i : Nat) → List Nat → Option Nat
  | _, [] => none
  | _, [_] => none
  | i, x :: y :: rest => if x < y then firstNotAscending (i + 1) (y :: rest) else some (i + 1)

/-- The starts a tariff frame gives for the bands below its band count. -/
def heldStarts (t : TariffFrame) : List Nat := t.starts.items.take t.bandCount

/-- The first rate above 4095, by class and band (R144, check 5). -/
def highRate (t : TariffFrame) : Option (Fin 4 × Fin 4) :=
  ((List.finRange 4).flatMap fun k => (List.finRange 4).map fun b => (k, b)).find? fun p =>
    decide (4095 < (t.rates.get p.1).get p.2)

/-- The mount kinds in the order of the fees. -/
def allMountKinds : List MountKind := [.robot, .ring, .manual, .foreign]

/-- The first check of R144 that fails, with its item and reason. R144 does not say which of several items
that fail one check is named: the first start, the later of the first pair that does not ascend, the first
rate by class and then band before any fee (DESIGN CHOICE, assumption log 58). -/
def judgeTariff (t : TariffFrame) : Option (TariffItem × Reason) :=
  let starts := heldStarts t
  if t.bandCount < 1 || 4 < t.bandCount then some (.bandCount, .badField)
  else if starts.head? ≠ some 0 then some (.start 0, .badField)
  else
    match firstStart (fun x => decide (86399 < x)) 0 starts with
    | some i => some (.start i, .badField)
    | none =>
      match firstNotAscending 0 starts with
      | some i => some (.start i, .notAscending)
      | none =>
        match highRate t with
        | some (k, b) => some (.rate k.val b.val, .badField)
        | none =>
          (allMountKinds.find? fun k => decide (4095 < t.fees.get (mountKindIndex k))).map fun k =>
            (.fee k, .badField)

/-- The copy a tariff frame writes; starts at or above the band count are not held (R144). -/
def tariffOf (t : TariffFrame) : Tariff :=
  { starts := heldStarts t, rates := t.rates, fees := t.fees, transfers := t.transfers, grace := t.grace }

/-- LOAD_TARIFF (R144). -/
def execLoadTariff (l : Link) (tag : Nat) (t : TariffFrame) (s : State) : Answer :=
  managed l tag .loadTariff (fun s =>
    match judgeTariff t with
    | some (item, reason) => s.respond l tag .loadTariff (.tableRejectTariff item reason)
    | none =>
      if s.mode = .configure then
        { s with accounting := { s.accounting with active := tariffOf t, pendingTariff := none } }
          |>.respond l tag .loadTariff .acceptedActive
      else
        { s with accounting := { s.accounting with pendingTariff := some (tariffOf t) } }
          |>.respond l tag .loadTariff .acceptedPending) s

/-! ### LOAD_ROUTING (R114) -/

/-- Takes one LOAD_ROUTING item (R114). -/
def routingItem (position : Nat) (i : RoutingItem) (s : State) : State × Option ItemReport :=
  match i.kind with
  | some k =>
    if i.targets.console0 || i.targets.console1 then
      ({ s with desk := { s.desk with routing := s.desk.routing.set (promptKindIndex k) i.targets } },
        none)
    else (s, some (.refused position .badField))
  | none => (s, some (.refused position .badField))

/-- LOAD_ROUTING (R114). -/
def execLoadRouting (l : Link) (tag : Nat) (items : List RoutingItem) (s : State) : Answer :=
  managed l tag .loadRouting (fun s =>
    let (s₁, reports) := takeItems routingItem 1 items s
    s₁.respond l tag .loadRouting (itemsResult reports)) s

/-! ### SET_POLICY (R190, R191) -/

/-- The policy with an exponent set (R131, R190). -/
def Policy.setExponent (p : Policy) (e : ExponentSetting) (n : Nat) : Policy :=
  match e with
  | .supervision => { p with supervision := n }
  | .loadTimeout => { p with loadTimeout := n }
  | .aging => { p with aging := n }
  | .reminder => { p with reminder := n }
  | .decision => { p with decision := n }
  | .information => { p with information := n }
  | .deferral => { p with deferral := n }

/-- The link permissions with one set or cleared. -/
def State.setPermission (k : Link) (value : Bool) (s : State) : State :=
  { s with intake := s.intake.update k fun e => { e with permitted := value } }

/-- Some link is permitted. -/
def State.anyPermitted (s : State) : Bool := allLinks.any fun k => (s.intake.get k).permitted

/-- Takes one SET_POLICY item and reports the value set (R191). -/
def policyItem (position : Nat) (i : PolicyItem) (s : State) : State × Option ItemReport :=
  let refuse := fun r => (s, some (ItemReport.refused position r))
  match i with
  | .exponent e value =>
    let value := clamp 0 7 value
    ({ s with policy := s.policy.setExponent e value }, some (.value (.exponent e value)))
  | .escalationCount value =>
    let value := clamp 1 7 value
    ({ s with policy := { s.policy with escalationCount := value } },
      some (.value (.escalationCount value)))
  | .approveDefault value =>
    match value with
    | some a => ({ s with policy := { s.policy with approveDefault := a } }, some (.value i))
    | none => refuse .badField
  | .highWater value =>
    let value := clamp 1 15 value
    ({ s with policy := { s.policy with highWater := value } }.evalRecordsHigh,
      some (.value (.highWater value)))
  | .permission link value =>
    match inRange 4 link, value with
    | some k, some b =>
      if (s.setPermission k b).anyPermitted then (s.setPermission k b, some (.value i))
      else refuse .lastLink
    | _, _ => refuse .badField
  | .unknown => refuse .badField

/-- SET_POLICY (R191). The response, which is formed from the items as they are taken, is sent before any
notice that a new high-water mark causes (R185). -/
def execSetPolicy (l : Link) (tag : Nat) (items : List PolicyItem) (s : State) : Answer :=
  managed l tag .setPolicy (fun s =>
    let reports := (takeItems policyItem 1 items s).2
    (takeItems policyItem 1 items (s.respond l tag .setPolicy (itemsResult reports))).1) s

end Sys2Proof.Machine
end

