-- ==== Sys2Proof/Machine/ClockFrames.lean ====
section
/-!
DEFINITION. The library clock: its frames, its advances and the tick of the time base, and the period
close (R133 to R142, R148, R163 to R165).
-/

namespace Sys2Proof.Machine

/-! ### The period close (R163 to R165) -/

/-- The allowance check of one held job at a close (R165). -/
def State.recheckAllowance (s : State) (n : Nat) : State :=
  match s.job? n with
  | some j =>
    if s.allowancePasses j.account then
      (((s.countMount j.account).updateJob n fun j => { j with counted := .allowance })
        |>.withdrawJobPrompt n fun _ => true).unhold n
    else s
  | none => s

/-- A period close (R163 to R165). -/
def State.periodClose (s : State) : State :=
  let s := s.closeAccounts
  (s.inOrder fun j => j.state = .held .allowance).foldl State.recheckAllowance s

/-! ### The advance (R134, R135, R141) -/

/-- The error count of a drive at an hour event (R36). -/
def Drive.hour (e : Drive) : Drive := if e.configured then { e with errorCount := e.errorCount - 1 } else e

/-- The close condition of a second advance to a new second of day (R141). -/
def Clock.closes (c : Clock) (second : Nat) : Bool :=
  match c.closeMode with
  | .hourly => second % 3600 = 0
  | .daily => second = 0
  | .shifts => c.shiftTimes.contains second
  | .manual => false

/-- The clock's counts after a second advance (R134). -/
def Clock.nextSecond (c : Clock) : Clock :=
  if c.second = 86399 then { c with second := 0, day := (c.day + 1) % 65536 }
  else { c with second := c.second + 1 }

/-- One second advance: the second event, the hour event's lowering of error counts, the day and the
close event (R134). Compensation comes after. -/
def State.advanceOnce (s : State) : State :=
  let s := s.accrue s.clock.second
  let s := { s with clock := s.clock.nextSecond }
  let s := if s.clock.second % 3600 = 0 then { s with drives := s.drives.map Drive.hour } else s
  if s.clock.closes s.clock.second then s.periodClose else s

/-- The compensation of an hour event: ticks added, with one further advance when they carry, or ticks
to drop (R135). -/
def State.compensate (s : State) : State :=
  let c := s.clock.compensation
  if 0 < c then
    let tick := s.clock.tick + c.toNat
    if 63 < tick then State.advanceOnce { s with clock := { s.clock with tick := tick - 64 } }
    else { s with clock := { s.clock with tick := tick } }
  else if c < 0 then { s with clock := { s.clock with ticksToDrop := (-c).toNat } }
  else s

/-- A second advance that comes from a carry: the tick count is 0, and compensation follows an hour event
(R134, R135). -/
def State.carry (s : State) : State :=
  let s := State.advanceOnce { s with clock := { s.clock with tick := 0 } }
  if s.clock.second % 3600 = 0 then s.compensate else s

/-- A prompt's timers after ticks of the part. -/
def Prompt.lowerTimers (n : Nat) (p : Prompt) : Prompt :=
  { p with
    reminderTimer := p.reminderTimer.lower n, limitTimer := p.limitTimer.lower n
    deferTimers := p.deferTimers.map (Timer.lower n) }

/-- A drive's timers after ticks of the part. -/
def Drive.lowerTimers (n : Nat) (e : Drive) : Drive :=
  { e with loadTimer := e.loadTimer.lower n, cleaningTimer := e.cleaningTimer.lower n }

/-- An arm's timer after ticks of the part. -/
def Arm.lowerTimers (n : Nat) (a : Arm) : Arm := { a with supervision := a.supervision.lower n }

/-- A job's timer after ticks of the part. -/
def Job.lowerTimers (n : Nat) (j : Job) : Job := { j with aging := j.aging.lower n }

/-- The part's own timers after `n` ticks of the time base: each running timer is lowered, and none
below 0. A timer that has reached 0 is due; its expiry is a command of its own. -/
def State.lowerTimers (n : Nat) (s : State) : State :=
  { s with
    drives := s.drives.map (Drive.lowerTimers n)
    arms := { s.arms with armA := s.arms.armA.lowerTimers n, armB := s.arms.armB.lowerTimers n }
    work := { s.work with
      jobs := s.work.jobs.map fun (e : Nat × Job) => (e.1, e.2.lowerTimers n) }
    desk := { s.desk with prompts := s.desk.prompts.map (Prompt.lowerTimers n) } }

/-- TIME_BASE_TICK: the part's timers run one tick, and a RUNNING clock counts it, drops it, or carries
it into a second advance (R134). -/
def execTimeBaseTick (s : State) : Answer :=
  let s₁ := s.lowerTimers 1
  if s.clock.state = .notSet then .next s₁
  else if 0 < s.clock.ticksToDrop then
    .next { s₁ with clock := { s.clock with ticksToDrop := s.clock.ticksToDrop - 1 } }
  else if s.clock.tick < 63 then .next { s₁ with clock := { s.clock with tick := s.clock.tick + 1 } }
  else .next (State.finish s s₁.carry)

/-- Ticks of the time base up to and including the one that carries next (R134). -/
def Clock.ticksToCarry (c : Clock) : Nat := 64 - c.tick + c.ticksToDrop

/-- SECOND_ADVANCE: the time base runs up to the tick that carries, and the clock makes its second
advance (R134). A clock in NOT_SET makes none. -/
def execSecondAdvance (s : State) : Answer :=
  if s.clock.state = .notSet then .next s
  else
    let s₁ := s.lowerTimers s.clock.ticksToCarry
    .next (State.finish s { s₁ with clock := { s.clock with ticksToDrop := 0 } }.carry)

/-! ### The clock's frames (R136 to R139, R141, R142) -/

/-- SET_CLOCK (R138); the day is a number of two bytes, 0 to 65535. -/
def execSetClock (l : Link) (tag day second : Nat) (s : State) : Answer :=
  managed l tag .setClock (fun s =>
    if 86399 < second then s.respond l tag .setClock (.tableRejectReason .badField)
    else
      { s with clock := { s.clock with
        state := .running, day := day % 65536, second := second, tick := 0, ticksToDrop := 0 } }
        |>.respond l tag .setClock (.acceptedTime (day % 65536) second)) s

/-- ADJUST_CLOCK: −128 sets −127, and the value is a signed byte (R136). -/
def execAdjustClock (l : Link) (tag : Nat) (compensation : Int) (s : State) : Answer :=
  managed l tag .adjustClock (fun s =>
    let c := max (-127) (min 127 compensation)
    { s with clock := { s.clock with compensation := c } }
      |>.respond l tag .adjustClock (.acceptedCompensation c)) s

/-- The clock rounded to the nearest whole minute (R139). -/
def Clock.rounded (c : Clock) : Clock :=
  let start := minuteStart c.second
  let c := { c with tick := 0, ticksToDrop := 0 }
  if c.second - start < 30 then { c with second := start }
  else if start + 60 = 86400 then { c with second := 0, day := (c.day + 1) % 65536 }
  else { c with second := start + 60 }

/-- ROUND_CLOCK (R139). -/
def execRoundClock (l : Link) (tag : Nat) (s : State) : Answer :=
  managed l tag .roundClock (fun s =>
    if s.clock.state = .notSet then s.respond l tag .roundClock .notRunning
    else
      let c := s.clock.rounded
      { s with clock := c }.respond l tag .roundClock (.acceptedTime c.day c.second)) s

/-- The READ_CLOCK snapshot (R137). -/
def Clock.read (c : Clock) : ClockRead :=
  { state := c.state, day := c.day, second := c.second, tick := c.tick, compensation := c.compensation
    closeMode := c.closeMode, shiftTimes := c.shiftTimes }

/-- READ_CLOCK (R137). -/
def execReadClock (l : Link) (tag : Nat) (s : State) : Answer :=
  managed l tag .readClock (fun s => s.respond l tag .readClock (.clock s.clock.read)) s

/-- Puts a time into an ascending list, once. -/
def insertTime (t : Nat) : List Nat → List Nat
  | [] => [t]
  | u :: rest => if t < u then t :: u :: rest else if t = u then u :: rest else u :: insertTime t rest

/-- The set of shift times a SET_CLOSE gives, ascending: two equal times count once (R141). -/
def shiftSet (times : List Nat) : List Nat := times.foldr insertTime []

/-- SET_CLOSE (R141); a frame carries three shift times at most. -/
def execSetClose (l : Link) (tag : Nat) (mode : CloseMode) (times : List Nat) (s : State) : Answer :=
  managed l tag .setClose (fun s =>
    if (times.any fun t => decide (86399 < t)) || (mode = CloseMode.shifts && times.isEmpty) then
      s.respond l tag .setClose (.tableRejectReason .badField)
    else
      { s with clock := { s.clock with
        closeMode := mode, shiftTimes := if mode = CloseMode.shifts then shiftSet (times.take 3) else [] } }
        |>.respond l tag .setClose .accepted) s

/-- CLOSE_PERIOD (R142). -/
def execClosePeriod (l : Link) (tag : Nat) (s : State) : Answer :=
  managed l tag .closePeriod (fun s =>
    State.finish s (s.respond l tag .closePeriod .accepted).periodClose) s

end Sys2Proof.Machine
end

