-- ==== Sys2Proof/Machine/ReportFrames.lean ====
section
/-!
DEFINITION. The management frames that read Accounting, and those of the error log and the notices
(R153, R159, R166, R197, R198, R200, R201).
-/

namespace Sys2Proof.Machine

/-! ### Accounting (R153, R159, R166) -/

/-- READ_RECORDS: up to four records leave the queue with the response, and the high condition is
evaluated after the removal (R159, R160). -/
def execReadRecords (l : Link) (tag : Nat) (s : State) : Answer :=
  managed l tag .readRecords (fun s =>
    let taken := s.accounting.records.take 4
    let left := s.accounting.records.drop 4
    let s := s.respond l tag .readRecords (.records taken left.length)
    { s with accounting := { s.accounting with records := left } }.evalRecordsHigh) s

/-- READ_CLOSED: a full closed slot is returned and emptied (R166). -/
def execReadClosed (l : Link) (tag index : Nat) (s : State) : Answer :=
  managed l tag .readClosed (fun s =>
    match inRange 64 index with
    | none => s.respond l tag .readClosed .badRequest
    | some a =>
      match (s.accounting.accounts.get a).closed with
      | none => s.respond l tag .readClosed .emptySlot
      | some c =>
        (s.updateAccount a fun e => { e with closed := none }).respond l tag .readClosed (.closedSlot c)) s

/-- READ_ACCOUNT (R153). -/
def execReadAccount (l : Link) (tag index : Nat) (s : State) : Answer :=
  managed l tag .readAccount (fun s =>
    match inRange 64 index with
    | none => s.respond l tag .readAccount .badRequest
    | some a =>
      let e := s.accounting.accounts.get a
      s.respond l tag .readAccount (.account
        { code := e.code, allowance := e.allowance, live := e.live, slotFull := e.closed.isSome
          period := s.accounting.period })) s

/-! ### The error log (R197, R198) -/

/-- READ_ERRORS (R197). -/
def execReadErrors (l : Link) (tag : Nat) (s : State) : Answer :=
  managed l tag .readErrors (fun s =>
    s.respond l tag .readErrors (.errors
      { first := s.errors.first, next := s.errors.next, counter := s.errors.counter
        count := s.errors.ring.length, entries := s.errors.ring })) s

/-- CLEAR_ERRORS: the first-error record becomes absent and the next-error set empty (R198). -/
def execClearErrors (l : Link) (tag : Nat) (s : State) : Answer :=
  managed l tag .clearErrors (fun s =>
    { s with errors := { s.errors with first := none, next := [] } }
      |>.respond l tag .clearErrors .accepted) s

/-! ### Notices (R200, R201) -/

/-- READ_NOTICES: under clear-on-read the pending set is cleared once the response is formed (R200). -/
def execReadNotices (l : Link) (tag : Nat) (s : State) : Answer :=
  managed l tag .readNotices (fun s =>
    let s₁ := s.respond l tag .readNotices (.notices s.notices)
    if s.notices.clearOnRead then
      { s₁ with notices := { s₁.notices with
        classes := s₁.notices.classes.map fun (n : NoticeState) => { n with pending := false } } }
    else s₁) s

/-- A class's pending flag is cleared (R200). -/
def State.clearPending (s : State) (c : NoticeClass) : State :=
  s.updateNotice c fun n => { n with pending := false }

/-- CLEAR_NOTICES (R200). -/
def execClearNotices (l : Link) (tag : Nat) (classes : List NoticeClass) (s : State) : Answer :=
  managed l tag .clearNotices (fun s =>
    (classes.foldl State.clearPending s).respond l tag .clearNotices .accepted) s

/-- Takes one SET_NOTICES item (R201). -/
def noticeItem (position : Nat) (i : NoticeItem) (s : State) : State × Option ItemReport :=
  let refuse := (s, some (ItemReport.refused position .badField))
  match i with
  | .raiseEnable c (some b) => (s.updateNotice c fun n => { n with raiseEnable := b }, none)
  | .clearEnable c (some b) =>
    if isConditionClass c then (s.updateNotice c fun n => { n with clearEnable := b }, none) else refuse
  | .noticeLink link =>
    match inRange 4 link with
    | some k => ({ s with notices := { s.notices with link := k } }, none)
    | none => refuse
  | .clearOnRead (some b) => ({ s with notices := { s.notices with clearOnRead := b } }, none)
  | .raiseEnable _ none | .clearEnable _ none | .clearOnRead none | .unknown => refuse

/-- SET_NOTICES (R201). -/
def execSetNotices (l : Link) (tag : Nat) (items : List NoticeItem) (s : State) : Answer :=
  managed l tag .setNotices (fun s =>
    let (s₁, reports) := takeItems noticeItem 1 items s
    s₁.respond l tag .setNotices (itemsResult reports)) s

end Sys2Proof.Machine
end

