-- ==== Sys2Proof/Machine/Wire.lean ====
section
/-!
DEFINITION. The link frame on the wire: the CRC, the checks of form, and the payload layouts the spec
gives (R181, R182, R186, R192, R193).
-/

namespace Sys2Proof.Machine

/-! ### The CRC (R181) -/

/-- One bit of the division by x^16 + x^12 + x^5 + 1. -/
def crcBit (r : BitVec 16) : BitVec 16 := if r.msb then (r <<< 1) ^^^ 0x1021#16 else r <<< 1

/-- One byte into the CRC register, most significant bit first. -/
def crcByte (r : BitVec 16) (b : Byte) : BitVec 16 :=
  crcBit (crcBit (crcBit (crcBit (crcBit (crcBit (crcBit (crcBit
    (r ^^^ (b.setWidth 16 <<< 8)))))))))

/-- The CRC of a sequence of bytes: initial value all ones, no final inversion. -/
def crc16 (bytes : List Byte) : BitVec 16 := bytes.foldl crcByte 0xFFFF#16

end Sys2Proof.Machine

namespace Sys2Proof

open Machine

/-- The bytes of an arriving frame that the CRC covers: the header and the payload. -/
def WireFrame.covered (f : WireFrame) : List Byte :=
  [f.destination, f.origin, f.kind.byte, f.tag, f.length, f.train] ++ f.payload

/-- The CRC received is the CRC of the frame. -/
def WireFrame.crcGood (f : WireFrame) : Bool := crc16 f.covered = f.crc

/-! ### Form (R181, R182) -/

/-- Parts in the train: the high four bits of the train byte. -/
def WireFrame.trainTotal (f : WireFrame) : Nat := f.train.toNat / 16

/-- This part's number: the low four bits of the train byte. -/
def WireFrame.trainPart (f : WireFrame) : Nat := f.train.toNat % 16

/-- The train byte is well formed: a total of 1 to 8 and a part number of 1 to the total (R182). -/
def WireFrame.trainGood (f : WireFrame) : Bool :=
  1 ≤ f.trainTotal && f.trainTotal ≤ 8 && 1 ≤ f.trainPart && f.trainPart ≤ f.trainTotal

/-- One part of one. -/
def WireFrame.onePart (f : WireFrame) : Bool := f.trainTotal = 1 && f.trainPart = 1

/-- The length byte is at most 60 and agrees with the bytes received. -/
def WireFrame.lengthGood (f : WireFrame) : Bool :=
  f.length.toNat ≤ 60 && f.length.toNat = f.payload.length

/-- The kind of an arriving frame: a kind the spec does not name is known by its code alone. -/
def WireFrame.kindName (f : WireFrame) : FrameKind :=
  match f.kind.name with
  | .other _ => .other f.kind.byte
  | k => k

/-- The request kinds of 10.3 and the management kinds of 10.4. -/
def FrameKind.isLibrary : FrameKind → Bool
  | .mount | .demount | .cancel | .queryVolume
  | .addVolumes | .deleteVolume | .setHome | .readVolume | .loadGeometry | .loadDrives | .loadAccounts
  | .loadTariff | .loadRouting | .setPolicy | .setClock | .adjustClock | .roundClock | .readClock | .setClose
  | .closePeriod | .readRecords | .readClosed | .readAccount | .readErrors | .clearErrors | .readNotices
  | .clearNotices | .setNotices | .readStatus | .clearResetCause | .start | .quiesce | .resetWarm | .eject
  | .enter => true
  | _ => false

/-- The request frames, taken from any link (R186, R187). -/
def FrameKind.isRequest : FrameKind → Bool
  | .mount | .demount | .cancel | .queryVolume => true
  | _ => false

/-- The form check of a frame on a request link (R181, step 2). -/
def WireFrame.linkFormGood (f : WireFrame) : Bool :=
  f.lengthGood && f.destination.toNat ≤ 16 && f.trainGood &&
    (if f.destination = 16#8 then f.kindName.isLibrary else f.onePart)

/-- The form check of a frame on the robot link or a console line, which carries the kinds that
`carried` names (R193). -/
def WireFrame.lineFormGood (carried : FrameKind → Bool) (f : WireFrame) : Bool :=
  f.destination = 16#8 && f.lengthGood && f.trainGood && f.onePart && carried f.kindName

end Sys2Proof

namespace Sys2Proof.Machine

/-- Whether a whole payload has a length its kind allows (R182, R186). The frames said to have no
content carry none; the lengths of the other management frames are not given. -/
def payloadLengthGood (k : FrameKind) (n : Nat) : Bool :=
  match k with
  | .mount => n = 15
  | .demount => n = 3
  | .cancel => n = 2
  | .queryVolume => n = 6
  | .roundClock | .readClock | .closePeriod | .readRecords | .readErrors | .clearErrors | .readNotices
  | .readStatus | .clearResetCause | .start | .quiesce | .resetWarm => n = 0
  | k => Config.lengthAllowed k n

/-! ### Payloads that arrive -/

/-- Byte `i` of a payload, 0 when the payload is shorter. -/
def byteAt (p : List Byte) (i : Nat) : Byte := p.getD i 0#8

/-- A code brought to six characters. -/
def fitCode (c : Code) : Code := (c ++ blankCode).take 6

/-- Six characters of a payload from byte `i`. -/
def codeAt (p : List Byte) (i : Nat) : Code := fitCode (((p.drop i).take 6).map Config.charOf)

/-- A number brought into a field of one byte. -/
def fitByte (n : Nat) : Nat := n % 256

/-- A number brought into a field of two bytes. -/
def fitWord (n : Nat) : Nat := n % 65536

/-- A number brought into a field of three bytes. -/
def fitWide (n : Nat) : Nat := n % 16777216

/-- A home whose cell fits its three bytes. -/
def fitHome : Home → Home
  | .cell c => .cell { rack := fitByte c.rack, column := fitByte c.column, level := fitByte c.level }
  | .shelf => .shelf

/-- The items a frame carries: at least one, and at most the number its frame allows (R188), each brought
into its fields. -/
def itemsOf {ι : Type} (most : Nat) (fit : ι → ι) (items : ι × List ι) : List ι :=
  ((items.1 :: items.2).take most).map fit

/-- An item of ADD_VOLUMES in its fields (R11). -/
def fitAdd (i : AddItem) : AddItem :=
  { i with serial := fitCode i.serial, home := fitHome i.home, owner := fitCode i.owner
           usesLeft := fitByte i.usesLeft }

/-- What a READ_VOLUME names, in its fields (R14). -/
def fitQuery : VolumeQuery → VolumeQuery
  | .bySerial c => .bySerial (fitCode c)
  | .byIndex i => .byIndex (fitWord i)

/-- An item of LOAD_GEOMETRY in its fields (R16). -/
def fitGeometry : GeometryItem → GeometryItem
  | .column rack col position => .column (fitByte rack) (fitByte col) (fitWord position)
  | .drive d position => .drive (fitByte d) (fitWord position)
  | .ringBay b position => .ringBay (fitByte b) (fitWord position)
  | .hatchBay b position => .hatchBay (fitByte b) (fitWord position)
  | .separation value => .separation (fitWord value)

/-- An item of LOAD_DRIVES in its fields (R23). -/
def fitDrive (i : DriveItem) : DriveItem :=
  { i with drive := fitByte i.drive, driveClass := fitByte i.driveClass, owningLink := fitByte i.owningLink
           threshold := fitByte i.threshold, cleanInterval := fitByte i.cleanInterval }

/-- An item of LOAD_ACCOUNTS in its fields (R152). -/
def fitAccount (i : AccountItem) : AccountItem :=
  { index := fitByte i.index, code := fitCode i.code, allowance := fitWord i.allowance }

/-- An item of SET_POLICY in its fields (R191). -/
def fitPolicy : PolicyItem → PolicyItem
  | .exponent e value => .exponent e (fitByte value)
  | .escalationCount value => .escalationCount (fitByte value)
  | .highWater value => .highWater (fitByte value)
  | .permission link value => .permission (fitByte link) value
  | .approveDefault value => .approveDefault value
  | .unknown => .unknown

/-- An item of SET_NOTICES in its fields (R201). -/
def fitNotice : NoticeItem → NoticeItem
  | .noticeLink link => .noticeLink (fitByte link)
  | i => i

/-- The times of a SET_CLOSE: one to three of three bytes each for SHIFTS, none otherwise (R141). -/
def fitTimes (mode : CloseMode) (times : List Nat) : List Nat :=
  if mode = .shifts then (times.take 3).map fitWide else []

/-- The content of a MOUNT payload (R186). -/
def mountContent (p : List Byte) : MountRequest :=
  { drive := (byteAt p 0).toNat, flags := byteAt p 1, serial := codeAt p 2, account := codeAt p 8
    priority := (byteAt p 14).toNat }

/-- The tariff of a LOAD_TARIFF payload; the spec gives no layout, so every number is free, in the width of
its field: three bytes for a start, two for a rate or a fee, one for the others (R143, R188). -/
def tariffContent (p : List Byte) : TariffFrame :=
  let byte := fun i => fitByte (Config.tariffNumber p i)
  let word := fun i => fitWord (Config.tariffNumber p i)
  let wide := fun i => fitWide (Config.tariffNumber p i)
  { bandCount := byte 0
    starts := ⟨[wide 1, wide 2, wide 3, wide 4], rfl⟩
    rates :=
      ⟨[⟨[word 5, word 6, word 7, word 8], rfl⟩, ⟨[word 9, word 10, word 11, word 12], rfl⟩,
        ⟨[word 13, word 14, word 15, word 16], rfl⟩, ⟨[word 17, word 18, word 19, word 20], rfl⟩], rfl⟩
    fees := ⟨[word 21, word 22, word 23, word 24], rfl⟩
    transfers := ⟨[byte 25, byte 26, byte 27, byte 28], rfl⟩
    grace := byte 29 }

/-- The command that a frame at the front of a link's intake queue is (R183): the layouts the spec gives
are read as it gives them, the others through `Config`, each value in its field and each list of items of a
length its frame allows. A frame of a kind that is no library kind is no command. -/
def frameCommand (l : Link) (f : IntakeFrame) : Option Instr :=
  let p := f.payload
  match f.kind with
  | .mount => some (.mount l f.tag (mountContent p))
  | .demount =>
    some (.demount l f.tag (byteAt p 0).toNat (Config.optionSet (byteAt p 1)) (byteAt p 2).toNat)
  | .cancel =>
    let named := (byteAt p 1).toNat
    some (.cancel l f.tag (if Config.cancelByTag (byteAt p 0) then .byTag named else .byNumber named))
  | .queryVolume => some (.queryVolume l f.tag (codeAt p 0))
  | .addVolumes => some (.addVolumes l f.tag (itemsOf 8 fitAdd (Config.addItems p)))
  | .deleteVolume => some (.deleteVolume l f.tag (fitCode (Config.deleteSerial p)))
  | .setHome => some (.setHome l f.tag (fitCode (Config.homeSerial p)) (fitHome (Config.homeValue p)))
  | .readVolume => some (.readVolume l f.tag (fitQuery (Config.volumeQuery p)))
  | .loadGeometry => some (.loadGeometry l f.tag (itemsOf 16 fitGeometry (Config.geometryItems p)))
  | .loadDrives => some (.loadDrives l f.tag (itemsOf 16 fitDrive (Config.driveItems p)))
  | .loadAccounts => some (.loadAccounts l f.tag (itemsOf 16 fitAccount (Config.accountItems p)))
  | .loadTariff => some (.loadTariff l f.tag (tariffContent p))
  | .loadRouting => some (.loadRouting l f.tag (itemsOf 15 id (Config.routingItems p)))
  | .setPolicy => some (.setPolicy l f.tag (itemsOf 16 fitPolicy (Config.policyItems p)))
  | .setClock => some (.setClock l f.tag (Config.clockDay p).toNat (Config.clockSecond p).toNat)
  | .adjustClock => some (.adjustClock l f.tag (Config.compensation p).toInt)
  | .roundClock => some (.roundClock l f.tag)
  | .readClock => some (.readClock l f.tag)
  | .setClose =>
    let mode := Config.closeMode p
    some (.setClose l f.tag mode (fitTimes mode (Config.closeTimes p)))
  | .closePeriod => some (.closePeriod l f.tag)
  | .readRecords => some (.readRecords l f.tag)
  | .readClosed => some (.readClosed l f.tag (Config.tableIndex p).toNat)
  | .readAccount => some (.readAccount l f.tag (Config.tableIndex p).toNat)
  | .readErrors => some (.readErrors l f.tag)
  | .clearErrors => some (.clearErrors l f.tag)
  | .readNotices => some (.readNotices l f.tag)
  | .clearNotices => some (.clearNotices l f.tag (Config.noticeClasses p))
  | .setNotices => some (.setNotices l f.tag (itemsOf 16 fitNotice (Config.noticeItems p)))
  | .readStatus => some (.readStatus l f.tag)
  | .clearResetCause => some (.clearResetCause l f.tag)
  | .start => some (.start l f.tag)
  | .quiesce => some (.quiesce l f.tag)
  | .resetWarm => some (.resetWarm l f.tag)
  | .eject => some (.eject l f.tag (fitCode (Config.moveSerial p)) (Config.movePriority p).toNat)
  | .enter => some (.enter l f.tag (fitCode (Config.moveSerial p)) (Config.movePriority p).toNat)
  | _ => none

/-! ### Payloads that are sent -/

/-- A number in `n` bytes, most significant first (R181). -/
def bigEndian : (n : Nat) → (value : Nat) → List Byte
  | 0, _ => []
  | n + 1, value => BitVec.ofNat 8 (value / 256 ^ n) :: bigEndian n value

/-- A byte with the given bits, from bit 0 upward. -/
def bitsByte (bits : List Bool) : Byte := BitVec.ofNat 8 (bits.foldr (fun b n => 2 * n + b.toNat) 0)

/-- Six bytes of a code; an absent code is sent as blanks. -/
def codeBytes (c : Option Code) : List Byte := (c.getD blankCode).map Config.charByte

/-- Rack in the high four bits and column in the low four (R192). -/
def rackColumnByte (c : Cell) : Byte := BitVec.ofNat 8 (c.rack * 16 + c.column)

/-- Day in two bytes, second of day in three (R192). -/
def stampBytes (t : Stamp) : List Byte := bigEndian 2 t.day ++ bigEndian 3 t.second

/-- A location's code and number (R192). -/
def locationBytes : Location → List Byte
  | .cell => [Config.locationByte 0, 0#8]
  | .drive d => [Config.locationByte 1, BitVec.ofNat 8 d.val]
  | .arm .a => [Config.locationByte 2, 0#8]
  | .arm .b => [Config.locationByte 2, 1#8]
  | .ring b => [Config.locationByte 3, BitVec.ofNat 8 b.val]
  | .hatch b => [Config.locationByte 4, BitVec.ofNat 8 b.val]
  | .shelf => [Config.locationByte 5, 0#8]
  | .uncertain => [Config.locationByte 6, 0#8]

/-- The 21 bytes of a volume entry as read (R192). The rack-column byte of a SHELF home and the last mount day
where it is absent are free (DESIGN CHOICE, assumption log 62). -/
def volumeEntryBytes (r : VolumeRead) : List Byte :=
  bigEndian 2 r.index ++ codeBytes (some r.volume.serial) ++
    (match r.volume.home with
      | .cell c => [rackColumnByte c, BitVec.ofNat 8 c.level]
      | .shelf => [Config.entryFill r.index 8, 255#8]) ++
    locationBytes r.volume.location ++
    [Config.poolByte r.volume.pool,
      bitsByte [r.volume.ring = .ringIn, r.volume.suspect, r.volume.lastMountDay.isSome, r.job.isSome],
      BitVec.ofNat 8 r.volume.owner.val, BitVec.ofNat 8 r.volume.usesLeft] ++
    bigEndian 2 r.volume.mountCount ++
    (match r.volume.lastMountDay with
      | some day => bigEndian 2 day
      | none => [Config.entryFill r.index 18, Config.entryFill r.index 19]) ++
    [BitVec.ofNat 8 (r.job.getD 255)]

/-- The 59 bytes of an accounting record as read (R192). -/
def recordBytes (r : Record) : List Byte :=
  bigEndian 4 r.sequence ++
    [Config.recordKindByte (match r.kind with | .final => 0 | .partialRecord => 1 | .clean => 2)] ++
    bigEndian 4 r.period ++ [BitVec.ofNat 8 r.account.val] ++ codeBytes (some r.code) ++
    [BitVec.ofNat 8 r.drive.val,
      bitsByte [r.volumeSerial.isSome, r.origin.isSome, r.saturated]] ++
    codeBytes r.volumeSerial ++ [Config.mountKindByte r.mountKind] ++
    (match r.origin with
      | some o => [BitVec.ofNat 8 o.link.val, BitVec.ofNat 8 o.tag]
      | none => [0#8, 0#8]) ++
    stampBytes r.start ++ stampBytes r.finish ++
    (r.bandSeconds.items.map (bigEndian 3)).flatten ++ bigEndian 3 r.blocksRead ++
    bigEndian 3 r.blocksWritten ++ [BitVec.ofNat 8 r.correctable] ++ bigEndian 3 r.charge

/-- The number of an order in the list of R193. -/
def Order.number : Order → Nat
  | .home => 0
  | .yieldTo _ => 1
  | .fetch _ => 2
  | .stow _ => 3
  | .load _ => 4
  | .pull _ => 5
  | .ringPut _ => 6
  | .ringTake _ => 7
  | .hatchPut _ => 8
  | .hatchTake _ => 9

/-- The target type and the two target bytes of an order (R193). R70 gives HOME the arm's rail end and YIELD
a rail position as their targets, so both carry RAIL, and STOP, which has none, carries NONE (DEDUCED,
assumption log 55). A target byte that the target does not use is free (DESIGN CHOICE, assumption log 62). -/
def Order.targetBytes (o : Order) : List Byte :=
  let fill := Config.orderFill o.number
  match o with
  | .home | .yieldTo _ => [Config.targetByte 1, fill 5, fill 6]
  | .fetch c | .stow c => [Config.targetByte 2, rackColumnByte c, BitVec.ofNat 8 c.level]
  | .load d | .pull d => [Config.targetByte 3, BitVec.ofNat 8 d.val, fill 6]
  | .ringPut b | .ringTake b => [Config.targetByte 4, BitVec.ofNat 8 b.val, fill 6]
  | .hatchPut b | .hatchTake b => [Config.targetByte 5, BitVec.ofNat 8 b.val, fill 6]

/-- The 7 payload bytes of a robot frame (R193). STOP has no position and no target, and their bytes are free
(DESIGN CHOICE, assumption log 62). -/
def robotBytes : RobotFrame → List Byte
  | .order x _ o position =>
    [match x with | .a => 0#8 | .b => 1#8, Config.orderByte o.number] ++
      (match position with
        | some p => bigEndian 2 p
        | none => [Config.orderFill o.number 2, Config.orderFill o.number 3]) ++ o.targetBytes
  | .stop =>
    let fill := Config.orderFill 10
    [2#8, Config.orderByte 10, fill 2, fill 3, Config.targetByte 0, fill 5, fill 6]

/-- The header tag of a robot frame: the order's tag, or 255 for STOP (R193). -/
def robotTag : RobotFrame → Nat
  | .order _ tag _ _ => tag
  | .stop => 255

/-- The bit of a reply word in the allowed replies of a SHOW (R193, which lists the words without numbers: the
first listed is bit 0; DEDUCED, assumption log 55). -/
def Word.bit : Word → Nat
  | .done => 0
  | .cancel => 1
  | .approve => 2
  | .deny => 3
  | .retry => 4
  | .inCell => 5
  | .outside => 6
  | .restored => 7
  | .parked => 8
  | .removed => 9
  | .defer => 10

/-- The 39 payload bytes of a SHOW frame (R193). The presence flags stand in the order listed, the first in
bit 0 (DEDUCED, assumption log 55). -/
def showBytes (p : Shown) : List Byte :=
  let q := p.params
  bigEndian 2 p.number ++
    [Config.promptKindByte p.kind,
      Config.severityByte (match p.severity with | .action => 0 | .decision => 1 | .information => 2),
      bitsByte [p.escalated], BitVec.ofNat 8 p.reminders] ++
    bigEndian 2 ((p.allowed.map fun w => 2 ^ w.bit).sum) ++ stampBytes p.posted ++
    [bitsByte [q.serial.isSome, q.label.isSome, q.drive.isSome, q.cell.isSome, q.bay.isSome,
      q.arm.isSome, q.account.isSome, q.intent.isSome]] ++
    codeBytes q.serial ++ codeBytes q.label ++
    [match q.drive with | some d => BitVec.ofNat 8 d.val | none => 0#8] ++
    (match q.cell with
      | some c => [rackColumnByte c, BitVec.ofNat 8 c.level, 0#8]
      | none => [0#8, 0#8, 0#8]) ++
    [match q.bay with
      | some (.ring b) => BitVec.ofNat 8 b.val
      | some (.hatch b) => BitVec.ofNat 8 (128 + b.val)
      | none => 0#8,
      match q.arm with | some .b => 1#8 | _ => 0#8] ++
    codeBytes q.account ++
    [match q.intent with | some i => Config.intentByte i | none => 0#8]

/-- The code of a kind on the wire. -/
def FrameKind.code : FrameKind → Byte
  | .other code => code
  | k => Config.kindByte k

/-- One frame the part forms: header, payload and the CRC over them (R181). -/
def formFrame (destination origin : Nat) (kind : FrameKind) (tag : Nat) (total part : Nat)
    (payload : List Byte) : WireFrame :=
  let f : WireFrame :=
    { destination := BitVec.ofNat 8 destination, origin := BitVec.ofNat 8 origin
      kind := { byte := FrameKind.code kind, name := kind }, tag := BitVec.ofNat 8 tag
      length := BitVec.ofNat 8 payload.length, train := BitVec.ofNat 8 (total * 16 + part)
      payload := payload, crc := 0#16 }
  { f with crc := crc16 f.covered }

/-- The bytes of a frame as sent, the CRC high byte first (R181). -/
def frameBytes (f : WireFrame) : List Byte := f.covered ++ bigEndian 2 f.crc.toNat

/-- Content cut into payloads of at most 60 bytes, at most `fuel` of them (R182). -/
def cutContent : (fuel : Nat) → List Byte → List (List Byte)
  | 0, _ => []
  | fuel + 1, p => if p.length ≤ 60 then [p] else p.take 60 :: cutContent fuel (p.drop 60)

/-- The frames of one content, given as the payloads of its parts: of one kind and tag, numbered 1 to the
total (R182). No payload passes 60 bytes. -/
def formTrain (destination origin : Nat) (kind : FrameKind) (tag : Nat) (parts : List (List Byte)) :
    List WireFrame :=
  parts.mapIdx fun i p => formFrame destination origin kind tag parts.length (i + 1) (p.take 60)

end Sys2Proof.Machine
end

