-- ==== Sys2Proof/Machine/DriveEvents.lean ====
section
/-!
DEFINITION. The String Monitor: status frames from the drive string, the drive timers, and what they tell
the jobs (R20, R21, R26 to R38, R55, R61, R62).
-/

namespace Sys2Proof.Machine

/-! ### Forwarding (R20) -/

/-- The link an upward frame of a drive is sent on (R20). -/
def State.upwardLink (s : State) (d : DriveId) : Link :=
  let e := s.drive d
  if e.configured then (inRange 4 e.owningLink).getD 0 else 0

/-- An upward frame is forwarded on the drive's link (R20). -/
def State.forward (d : DriveId) (f : DriveFrame) (s : State) : State :=
  s.emit (.link (s.upwardLink d) (.status d f))

/-! ### Occupancies (R27 to R29) -/

/-- A READY opens an occupancy: the drive becomes OCCUPIED, the volume's use is counted, and mounts since
clean rises (R27, R28, R29, R37). -/
def State.openOccupancy (d : DriveId) (account : AccountId) (kind : MountKind) (volume : Option Nat)
    (origin : Option Origin) (writeEnabled : Bool) (s : State) : State :=
  let o := s.newOccupancy account kind volume origin
  let s := s.updateDrive d fun e =>
    { e with
      state := .occupied, occupancy := some o, loadTimer := .stopped
      mountsSinceClean := saturate 255 (e.mountsSinceClean + 1) }
  match volume with
  | some v => s.startUse v writeEnabled
  | none => s

/-- The volume of a scratch mount that has completed becomes PRIVATE and its job's account's (R7). -/
def State.claimScratch (j : Job) (s : State) : State :=
  match j.scratch, j.volume with
  | true, some v => s.updateVolume v fun e => { e with pool := .privatePool, owner := j.account }
  | _, _ => s

/-- A READY for a job (R27, R61). A cancelled job's MOUNT_BY_HAND, posted again after a load timeout, is
withdrawn: a later DONE finds it closed. -/
def State.readyForJob (d : DriveId) (n : Nat) (j : Job) (writeEnabled : Bool) (s : State) : State :=
  let s := (s.openOccupancy d j.account j.mountKind j.volume j.origin writeEnabled)
    |>.withdrawDriveService d
  let s := s.updateJob n fun j => { j with mounted := true }
  if j.cancelled then
    (((s.withdrawJobPrompt n fun _ => true).updateJob n fun j => { j with returning := true })
      |>.setJobState n .unloadWait).injectRewind d
  else (s.endJob n (some (.mountComplete (!writeEnabled)))).claimScratch j

/-- A wrong reel (R28, R61). -/
def State.wrongReel (d : DriveId) (n : Nat) (j : Job) (label : Code) (writeEnabled : Bool)
    (s : State) : State :=
  let s := (s.openOccupancy d 0 .foreign j.volume none writeEnabled).logError .wrongReel .job
    { drive := some d, job := some n, volume := j.volume, detail := some (.label (some label)) }
  let s := s.injectRewind d
  let s := match j.volume with
    | some v => s.updateVolume v fun e => { e with suspect := true }
    | none => s
  let s := (s.sendFailure n (.mountFailed .wrongReel)).updateJob n fun j =>
    { j with returning := true, disposal := .wrongReel label, mounted := true }
  (s.setJobState n (.held .wrongReel)).postForJob n .wrongReel { drive := some d, serial := j.serial }

/-! ### Jobs whose volume or drive is taken (R55, R61) -/

/-- A job naming a volume that has not yet had the reel in hand, and can be settled by its place (R55). -/
def Job.notYetHeld (j : Job) : Bool :=
  j.kind ≠ .demount && match j.state with
    | .held r =>
      match r with
      | .allowance | .suspect | .uncertain | .waitVolume | .noScratch | .noCleaner => true
      | .hatchFull => j.arm.isNone
      | .reelCheck | .armLost => j.toFetch
      | .wrongReel | .ringFull => false
    | .waiting => j.legs.isEmpty || j.toFetch
    | .manual => (j.kind = .mount && !j.returning) || j.kind = .enter
    | .assigned => j.toFetch
    | .atRing | .loading | .unloadWait | .cleanWait => false

/-- Settles one job that names a volume now at a drive: at once, or when its order in flight completes
(R55). -/
def State.settleOne (v : Nat) (s : State) (n : Nat) : State :=
  match s.job? n with
  | some j =>
    if j.volume = some v && j.notYetHeld && !(j.state = .assigned && s.jobBusy j) then s.settleTaken n
    else s
  | none => s

/-- The Work List is told that a volume is now at a drive (R29, R55). -/
def State.volumeAtDrive (v : Nat) (s : State) : State := s.jobNumbers.foldl (State.settleOne v) s

/-- A job is told DRIVE_TAKEN: its drive becomes absent, and it acts by its position (R61). -/
def State.driveTaken (n : Nat) (s : State) : State :=
  let s := s.updateJob n fun j => { j with drive := none }
  match s.job? n with
  | none => s
  | some j =>
    let failed := Lifecycle.mountFailed .driveTaken
    let inRing := s.reelInRing j n
    if j.returning then s
    else
      match j.state with
      | .atRing =>
        let s := (s.withdrawJobPrompt n fun _ => true).sendFailure n failed
        match inRing with
        | some b => (s.turnHomeFromRing n b).setJobState n .waiting
        | none => s
      | .assigned =>
        if s.reelInHand j then ((s.sendFailure n failed).turnHome n).goOn j
        else if s.jobBusy j then s
        else
          match inRing with
          | some b => ((s.sendFailure n failed).turnHomeFromRing n b).goOn j
          | none => s.endJob n (some failed)
      | t =>
        if s.reelInHand j then
          let s := (s.sendFailure n failed).turnHome n
          if t = .held .armLost then s else (s.setJobState n .assigned).goOn j
        else
          match inRing with
          | some b => (s.sendFailure n failed).turnHomeFromRing n b
          | none => s.endJob n (some failed)

/-- The volume a foreign reel's label names, when it may be moved to the drive (R29). -/
def State.foreignVolume (s : State) (label : Option Code) : Option (Nat × Volume) :=
  label.bind s.volumeOf

/-- A foreign reel is found in a drive (R29). -/
def State.foreignReel (d : DriveId) (writeEnabled : Bool) (label : Option Code) (s : State) : State :=
  let found := s.foreignVolume label
  let linked := match found with
    | some (v, e) => if e.location.isHolder then none else some v
    | none => none
  let s := match found, linked with
    | some (v, _), none =>
      s.logError .locationConflict .info { volume := some v, drive := some d }
    | _, some v => s.moveVolume v (.drive d)
    | none, none => s
  let s := s.openOccupancy d 0 .foreign linked none writeEnabled
  let s := s.post (.drive d) .foreignReel { drive := some d, label := label } false
  match linked with
  | some v => s.volumeAtDrive v
  | none => s

/-- An unrequested READY (R29). -/
def State.unrequestedReady (d : DriveId) (writeEnabled : Bool) (label : Option Code) (s : State) :
    State :=
  let s := s.logError .unrequestedReady .info { drive := some d, detail := some (.label label) }
  match (s.drive d).state with
  | .empty => s.foreignReel d writeEnabled label
  | .reserved =>
    let s := s.foreignReel d writeEnabled label
    match (s.drive d).job with
    | some n => (s.updateDrive d fun e => { e with job := none }).driveTaken n
    | none => s
  | _ => s

/-- A job in MANUAL whose MOUNT_BY_HAND prompt is open. -/
def State.waitsForHand (s : State) (j : Job) : Bool :=
  j.state = .manual && match j.prompt.bind s.prompt? with
    | some p => p.kind = .mountByHand
    | none => false

/-- A READY answers a manual mount first: the prompt is withdrawn and a mapped volume moves to the drive
(R27). -/
def State.handReady (d : DriveId) (n : Nat) (j : Job) (s : State) : State :=
  let s := s.withdrawJobPrompt n fun _ => true
  match j.volume with
  | some v => s.moveVolume v (.drive d)
  | none => s

/-- A READY that the String Monitor reads (R27 to R29). -/
def State.takeReady (d : DriveId) (writeEnabled : Bool) (label : Option Code) (s : State) : State :=
  let e := s.drive d
  match e.job.bind fun n => (s.job? n).map fun j => (n, j) with
  | some (n, j) =>
    if e.state = .loading then
      match label with
      | some c =>
        if j.serial = some c then s.readyForJob d n j writeEnabled
        else s.wrongReel d n j c writeEnabled
      | none => s.readyForJob d n j writeEnabled
    else if e.state = .reserved && s.waitsForHand j && (label.isNone || label = j.serial) then
      (s.handReady d n j).readyForJob d n j writeEnabled
    else s.unrequestedReady d writeEnabled label
  | none => s.unrequestedReady d writeEnabled label

/-- READY (R27 to R29). -/
def execReady (d : DriveId) (writeEnabled : Bool) (label : Option Code) (s : State) : Answer :=
  let s₁ := s.forward d (.ready writeEnabled label)
  .next (if s.reads d then State.finish s (s₁.takeReady d writeEnabled label) else s₁)

/-! ### UNLOADED (R31, R37) -/

/-- A job HELD WRONG_REEL is released: PULL and HATCH_PUT, or by hand when the drive holds no recorded
volume (R58). -/
def State.releaseWrongReel (n : Nat) (d : DriveId) (s : State) : State :=
  match s.locatedAt (.drive d) with
  | some _ =>
    (s.updateJob n fun j => { j with legs := [.pull d, .hatchPut none], leg := 0, retryUsed := false })
      |>.setJobState n .waiting
  | none => (s.setJobState n .manual).postForJob n .demountByHand { drive := some d }

/-- The WRONG_REEL prompt of a job has been answered: none is open, and none is owed. -/
def State.wrongReelAnswered (s : State) (n : Nat) (j : Job) : Bool :=
  j.prompt.isNone && !s.isOwed (.job (j.ref n)) .wrongReel

/-- A job is told UNLOADED by its drive (R31, R49, R58). -/
def State.jobUnloaded (n : Nat) (d : DriveId) (s : State) : State :=
  match s.job? n with
  | none => s
  | some j =>
    if j.state = .held .wrongReel then
      if s.wrongReelAnswered n j then s.releaseWrongReel n d else s
    else if j.state = .unloadWait then s.afterUnloaded n d
    else s

/-- A reel that failed to thread (R31, R61). -/
def State.notReady (d : DriveId) (s : State) : State :=
  let job := (s.drive d).job.bind fun n => (s.job? n).map fun j => (n, j)
  let s := s.updateDrive d fun e =>
    { e with
      state := .awaitingPull, loadTimer := .stopped
      lastMountKind := (job.map Prod.snd).map Job.mountKind }
  match job with
  | some (n, _) =>
    ((s.sendFailure n (.mountFailed .notReady)).updateJob n fun j => { j with returning := true })
      |>.afterUnloaded n d
  | none => s

/-- A reel unloaded: the occupancy closes with its FINAL record, and the job is told or created (R31). -/
def State.reelUnloaded (d : DriveId) (s : State) : State :=
  let e := s.drive d
  let s := (s.updateDrive d fun e =>
    { e with state := .awaitingPull, lastMountKind := e.occupancy.map Occupancy.mountKind })
      |>.closeOccupancy d
  match e.job with
  | some n => s.jobUnloaded n d
  | none => if e.autoDemount then s.create d .demount else s

/-- A cleaning has completed (R37, R158). -/
def State.cleaned (d : DriveId) (s : State) : State :=
  let e := s.drive d
  let cleaner := s.locatedAt (.drive d)
  let s := s.updateDrive d fun e =>
    { e with
      state := .awaitingPull, cleaningTimer := .stopped, mountsSinceClean := 0
      lastMountKind := some .robot }
  let s := match cleaner with
    | some v => s.updateVolume v fun c => { c with usesLeft := c.usesLeft - 1 }
    | none => s
  let s := s.placeRecord (s.cleanRecord d cleaner)
  match e.job with
  | some n =>
    (s.updateJob n fun j => { j with legs := s.cleanerLegs d cleaner, leg := 0, retryUsed := false })
      |>.setJobState n .waiting
  | none => s.create d .cleanFromPull

/-- An UNLOADED that the String Monitor reads (R31). -/
def State.takeUnloaded (d : DriveId) (s : State) : State :=
  match (s.drive d).state with
  | .occupied | .unloading => s.reelUnloaded d
  | .loading => s.notReady d
  | .cleaning => s.cleaned d
  | .empty | .reserved | .awaitingPull | .cleanDue | .service => s

/-- UNLOADED (R31). -/
def execUnloaded (d : DriveId) (s : State) : Answer :=
  let s₁ := s.forward d .unloaded
  .next (if s.reads d then State.finish s (s₁.takeUnloaded d) else s₁)

/-! ### CHECK and USAGE (R32, R34) -/

/-- A LOAD of this job is in flight or interrupted. -/
def State.loadUnderWay (s : State) (j : Job) : Bool :=
  match j.arm with
  | some x =>
    let isLoad := fun o : Order => match o with
      | .load _ => true
      | _ => false
    (s.arm x).hasInFlight isLoad || match (s.arm x).interrupted with
      | some i => isLoad i.order
      | none => false
  | none => false

/-- A CLEAN job is told DRIVE_SERVICE. R34 has any CLEAN job that names the drive told, and act as R62 gives;
R62 gives a job whose cleaner was not yet loaded what it does, and one whose cleaner has been in the drive goes
on as it was (DEDUCED, assumption log 60). -/
def State.toldService (n : Nat) (s : State) : State :=
  match s.job? n with
  | none => s
  | some j =>
    if j.kind ≠ .clean || j.cleanLoaded then s
    else
      let s := s.updateJob n fun j => { j with drive := none }
      if j.returning then s
      else if s.reelInHand j then if s.loadUnderWay j then s else (s.turnHome n).goOn j
      else if s.jobBusy j then s
      else s.endJob n none

/-- The threshold comparison after an increase (R34). -/
def State.compareThreshold (d : DriveId) (s : State) : State :=
  let e := s.drive d
  if e.threshold ≤ e.errorCount && !e.draining then
    let s := (s.updateDrive d fun e => { e with draining := true }).logError .driveThreshold .info
      { drive := some d, detail := some (.count e.errorCount) }
    let s := s.evalDriveService
    if e.state = .empty || e.state = .cleanDue then
      let s := s.enterService d
      match e.job with
      | some n => s.toldService n
      | none => s
    else s
  else s

/-- A drive's error count rises, and is compared with the threshold (R34). -/
def State.raiseErrors (d : DriveId) (n : Nat) (s : State) : State :=
  (s.updateDrive d fun e => { e with errorCount := saturate 255 (e.errorCount + n) }).compareThreshold d

/-- An INTERVENTION while LOADING posts DRIVE_SERVICE, unless the drive already owns one (R34). -/
def State.intervention (d : DriveId) (s : State) : State :=
  let e := s.drive d
  if e.state = .loading && e.servicePrompt.isNone && !s.isOwed (.drive d) .driveService then
    s.postDriveService d
  else s

/-- A CHECK that the String Monitor reads (R34). -/
def State.takeCheck (d : DriveId) (c : CheckCode) (s : State) : State :=
  match c with
  | .correctable => s.raiseErrors d 1
  | .permanent => s.raiseErrors d 8
  | .intervention => s.intervention d
  | .other => s

/-- CHECK (R21, R34). -/
def execCheck (d : DriveId) (c : CheckCode) (s : State) : Answer :=
  let s₁ := s.forward d (.check c)
  .next (if s.reads d then State.finish s (s₁.takeCheck d c) else s₁)

/-- An occupancy with the counts of a USAGE added (R32). -/
def Occupancy.addUsage (blocksRead blocksWritten correctable : Nat) (o : Occupancy) : Occupancy :=
  { o with
    blocksRead := saturate max24 (o.blocksRead + blocksRead)
    blocksWritten := saturate max24 (o.blocksWritten + blocksWritten)
    correctable := saturate 255 (o.correctable + correctable) }

/-- A USAGE that the String Monitor reads (R32). -/
def State.takeUsage (d : DriveId) (blocksRead blocksWritten correctable : Nat) (s : State) : State :=
  let s := s.updateDrive d fun e =>
    { e with occupancy := e.occupancy.map (Occupancy.addUsage blocksRead blocksWritten correctable) }
  if 0 < correctable then s.raiseErrors d correctable else s

/-- USAGE (R32). -/
def execUsage (d : DriveId) (blocksRead blocksWritten correctable : Nat) (s : State) : Answer :=
  let s₁ := s.forward d (.usage blocksRead blocksWritten correctable)
  .next (if s.reads d then State.finish s (s₁.takeUsage d blocksRead blocksWritten correctable) else s₁)

/-! ### Other frames of the drive string (R20) -/

/-- DRIVE_STATUS: a frame with a bad CRC is discarded and logged; the ending status of an injected
REWIND_UNLOAD, which names the library, is taken; any other frame is forwarded (R20). -/
def execDriveStatus (d : DriveId) (f : WireFrame) (s : State) : Answer :=
  if !f.crcGood then .next (s.logError .badCheck .link { drive := some d })
  else if f.destination = 16#8 then .next s
  else .next (s.forward d (.other f))

/-! ### The drive timers (R26, R38) -/

/-- The load timer of a LOADING drive expires (R26, R62). -/
def State.loadExpired (d : DriveId) (n : Nat) (j : Job) (s : State) : State :=
  let s := s.logError .loadTimeout .job { drive := some d, job := some n }
  if j.handMount then
    let s := s.updateDrive d fun e => { e with loadTimer := .stopped }
    (s.setJobState n .manual).postForJob n .mountByHand
      { serial := j.serial, drive := some d, intent := some j.intent }
  else (s.enterService d).endJob n (some (.mountFailed .loadTimeout))

/-- LOAD_TIMEOUT (R26). It acts while the drive is LOADING with its load timer running. -/
def execLoadTimeout (d : DriveId) (s : State) : Answer :=
  let e := s.drive d
  if e.state = .loading && e.loadTimer.isRunning then
    match e.job.bind fun n => (s.job? n).map fun j => (n, j) with
    | some (n, j) => .next (State.finish s (s.loadExpired d n j))
    | none => .next s
  else .next s

/-- CLEAN_TIMEOUT (R38). It acts while the drive is CLEANING with its cleaning timer running. -/
def execCleanTimeout (d : DriveId) (s : State) : Answer :=
  let e := s.drive d
  if e.state = .cleaning && e.cleaningTimer.isRunning then
    let s₁ := (s.logError .cleanTimeout .job
      { drive := some d, job := e.job, volume := s.locatedAt (.drive d) }).enterService d
    .next (State.finish s (match e.job with
      | some n => s₁.endJob n none
      | none => s₁))
  else .next s

end Sys2Proof.Machine
end

