-- ==== Sys2Proof/Machine/LinkIntake.lean ====
section
/-!
DEFINITION. The Link Intake: the checks of an arriving frame, drive commands, train assembly and the
intake queues (R19, R181 to R183).
-/

namespace Sys2Proof.Machine

/-! ### Refusals of the intake (R181 to R183) -/

/-- A frame is answered BAD_FRAME at once and the error is logged (R181, R182; assumption log 28). -/
def State.refuseFrame (l : Link) (tag : Nat) (k : FrameKind) (s : State) : State :=
  (s.respond l tag k .badFrame).logError .badFrame .link { detail := some (.linkKind l k) }

/-- The state with a link's intake changed by `f`. -/
def State.updateIntake (l : Link) (f : LinkState → LinkState) (s : State) : State :=
  { s with intake := s.intake.update l f }

/-! ### Drive commands (R19, R30) -/

/-- A command to this drive is answered MOUNT_PENDING and not forwarded (R19). -/
def State.mountPending (s : State) (d : DriveId) : Bool :=
  s.reads d && ((s.drive d).state = .reserved || (s.drive d).state = .loading)

/-- A drive command is sent down the string, or answered MOUNT_PENDING; a REWIND_UNLOAD that passes makes
an OCCUPIED drive UNLOADING (R19, R30). -/
def State.driveCommand (l : Link) (d : DriveId) (f : WireFrame) (s : State) : State :=
  if s.mountPending d then s.emit (.link l (.mountPending f.tag.toNat d))
  else
    let s := s.emit (.string (.command f))
    if s.reads d && f.kindName = .rewindUnload && (s.drive d).state = .occupied then
      s.updateDrive d fun e => { e with state := .unloading }
    else s

/-! ### Trains and queues (R182, R183) -/

/-- A complete library frame is placed in its link's intake queue: answered BAD_FRAME when its payload has
no length its kind allows, and BUSY when the queue is full (R182, R183). -/
def State.enqueue (l : Link) (k : FrameKind) (tag : Nat) (payload : List Byte) (s : State) : State :=
  if !payloadLengthGood k payload.length then s.refuseFrame l tag k
  else if (s.intake.get l).queue.length < 8 then
    s.updateIntake l fun i => { i with queue := i.queue ++ [{ kind := k, tag := tag, payload := payload }] }
  else
    (s.respond l tag k .busy).logError .intakeFull .link { detail := some (.linkKindTag l k tag) }

/-- A library frame taken with no partial train present (R182). -/
def State.firstPart (l : Link) (f : WireFrame) (s : State) : State :=
  let k := f.kindName
  let tag := f.tag.toNat
  if f.trainPart ≠ 1 then s.refuseFrame l tag k
  else if f.trainTotal = 1 then s.enqueue l k tag f.payload
  else
    let t : PartialTrain :=
      { kind := k, tag := tag, total := f.trainTotal, taken := 1, payload := f.payload }
    s.updateIntake l fun i => { i with train := some t }

/-- The frame is the next part of a partial train (R182). -/
def PartialTrain.next (t : PartialTrain) (f : WireFrame) : Bool :=
  f.kindName = t.kind && f.tag.toNat = t.tag && f.trainTotal = t.total && f.trainPart = t.taken + 1

/-- Train assembly (R182). A frame that breaks a train and is itself refused is answered after the train's
refusal has been answered, logged and notified (DESIGN CHOICE, assumption log 72). -/
def State.assemble (l : Link) (f : WireFrame) (s : State) : State :=
  match (s.intake.get l).train with
  | none => s.firstPart l f
  | some t =>
    if t.next f then
      let payload := t.payload ++ f.payload
      if f.trainPart = t.total then
        (s.updateIntake l fun i => { i with train := none }).enqueue l t.kind t.tag payload
      else
        let grown : PartialTrain := { t with taken := f.trainPart, payload := payload }
        s.updateIntake l fun i => { i with train := some grown }
    else
      ((s.updateIntake l fun i => { i with train := none }).refuseFrame l t.tag t.kind).firstPart l f

/-- LINK_FRAME_ARRIVAL: CRC, form, and the route to the String Monitor or to train assembly (R181). -/
def execLinkFrameArrival (l : Link) (f : WireFrame) (s : State) : Answer :=
  if !f.crcGood then .next (s.logError .badCheck .link { detail := some (.link l) })
  else if !f.linkFormGood then .next (s.refuseFrame l f.tag.toNat f.kindName)
  else
    match inRange 16 f.destination.toNat with
    | some d => .next (s.driveCommand l d f)
    | none => .next (s.assemble l f)

end Sys2Proof.Machine
end

