-- ==== Sys2Proof/Machine/RobotEvents.lean ====
section
/-!
DEFINITION. The robot link: its completions, its frames as they arrive, and the expiry of a motion order's
supervision (R72 to R75, R193).
-/

namespace Sys2Proof.Machine

/-- COMPLETION_DONE: the order in flight that the tag names is done; a tag that names none is late or
unknown (R73, R74). -/
def execCompletionDone (tag position : Nat) (handLoaded : Bool) (s : State) : Answer :=
  match s.inFlightOf tag with
  | some (x, o) => .next (State.finish s ((s.matched x position).doneOf x o handLoaded))
  | none => .next (s.unmatched tag true)

/-- COMPLETION_FAULT: the order in flight that the tag names has faulted; a tag that names none is late
or unknown (R73, R75). -/
def execCompletionFault (tag position : Nat) (cause : FaultCause) (s : State) : Answer :=
  match s.inFlightOf tag with
  | some (x, o) => .next (State.finish s ((s.matched x position).faultOf x tag o position cause))
  | none => .next (s.unmatched tag false)

/-- MOTION_TIMEOUT: the supervision timer of an arm's order in flight expires (R72). A timer that is
stopped, or suspended in SAFE, does not expire (assumption log 6). -/
def execMotionTimeout (x : ArmId) (s : State) : Answer :=
  match (s.arm x).inFlight with
  | some f =>
    if (s.arm x).supervision.isRunning then .next (State.finish s (s.motionExpired x f.tag f.order))
    else .next s
  | none => .next s

/-! ### Frames of the robot link (R193) -/

/-- The kinds the robot link carries to the part. -/
def robotKinds (k : FrameKind) : Bool := k = .completion

/-- Byte `i` of a completion's payload; R193 gives it 6 bytes and no discard for a payload of another length,
so a missing byte is free and a byte past the sixth is not read (DESIGN CHOICE, assumption log 63). -/
def completionByte (p : List Byte) (i : Nat) : Byte :=
  if i < p.length then byteAt p i else Config.missingByte p i

/-- The position in a completion's payload, bytes 2 and 3; one above 1023, for which R193 gives no discard, is
taken as a free position of the rail (DESIGN CHOICE, assumption log 63). -/
def completionPosition (p : List Byte) : Nat :=
  let n := (completionByte p 2).toNat * 256 + (completionByte p 3).toNat
  if n ≤ 1023 then n else (Config.positionRead p).toNat

/-- A good completion goes to Arm Control (R193): the tag stands in the header, the arm byte is not read, and
the codes of the outcome, the hand and the cause are free. -/
def State.takeCompletion (f : WireFrame) (s : State) : Answer :=
  let p := f.payload
  if Config.completionFaulted (completionByte p 1) then
    execCompletionFault f.tag.toNat (completionPosition p) (Config.faultCause (completionByte p 5)) s
  else execCompletionDone f.tag.toNat (completionPosition p) (Config.handLoaded (completionByte p 4)) s

/-- ROBOT_LINK_FRAME_DISCARDED: a frame on the robot link with a bad CRC or a bad form is discarded and
logged. A good one is a completion and is taken as one (R193; assumption log 31). -/
def execRobotLinkFrameDiscarded (f : WireFrame) (s : State) : Answer :=
  if !f.crcGood then .next (s.logError .badCheck .link { detail := some .robotLink })
  else if !f.lineFormGood robotKinds then
    .next (s.logError .badFrame .link { detail := some (.robotLinkKind f.kindName) })
  else s.takeCompletion f

end Sys2Proof.Machine
end

