-- ==== Sys2Proof/Machine/Replies.lean ====
section
/-!
DEFINITION. The replies of the operators: how a reply is judged and accepted, and what each word does for
the owner of each kind of prompt (R35, R54 to R58, R62, R88 to R90, R99 to R107, R118, R124 to R126).
-/

namespace Sys2Proof.Machine

/-! ### Taking an outcome (R125, R126) -/

/-- The owner of a closed prompt clears its own record of the number (R125). -/
def State.forget (o : Owner) (n : Nat) (s : State) : State :=
  let drop := fun q : Option Nat => if q = some n then none else q
  match o with
  | .job r =>
    if (s.liveJob r).isSome then s.updateJob r.number fun j => { j with prompt := drop j.prompt } else s
  | .arm x => s.updateArm x fun a => { a with faultPrompt := drop a.faultPrompt }
  | .drive d =>
    s.updateDrive d fun e =>
      { e with servicePrompt := drop e.servicePrompt, handDemountPrompt := drop e.handDemountPrompt }
  | .hatch _ | .library _ => s

/-- Hands an outcome to a job, which drops it when the job is no longer on the list (R44, R125). -/
def State.toJob (r : JobRef) (act : Nat → Job → State → State) (s : State) : State :=
  match s.liveJob r with
  | some j => act r.number j s
  | none => s

/-- A reply: refused with its result, or accepted, its prompt closed ANSWERED and its outcome handed to
the owner (R124 to R126). -/
def takeReply (c : Console) (n : Nat) (w : Word) (act : Prompt → State → State) (s : State) : Answer :=
  match s.judgeReply c n w, s.prompt? n with
  | .accepted, some p => .next (State.finish s (act p ((s.answer c n).forget p.owner n)))
  | r, _ => .next (s.replyResult c n r)

/-! ### DONE -/

/-- MOUNT_BY_HAND DONE: a mapped volume moves from SHELF to the drive, the drive is LOADING with its load
timer started, and so is the job (R26, R62, R106). -/
def State.mountedByHand (n : Nat) (j : Job) (s : State) : State :=
  match j.drive with
  | none => s
  | some d =>
    let s := match j.volume with
      | some v => s.moveVolume v (.drive d)
      | none => s
    (s.updateDrive d fun e =>
      { e with state := .loading, loadTimer := .running s.policy.loadTicks }).setJobState n .loading

/-- The reel of a drive is taken out by hand: the volume recorded there moves to SHELF (R35, R107). -/
def State.takenByHand (d : DriveId) (s : State) : State :=
  match s.locatedAt (.drive d) with
  | some v => s.moveVolume v .shelf
  | none => s

/-- A drive in SERVICE, its reel taken out, posts DRIVE_SERVICE or keeps the one it owns (R35). -/
def State.afterHandDemount (d : DriveId) (s : State) : State :=
  if (s.drive d).state = .service then s.postService d else s

/-- DEMOUNT_BY_HAND DONE for a job: the volume moves to SHELF, the drive is emptied, and the job ends
(R33, R62, R107). -/
def State.demountedByHand (params : PromptParams) (n : Nat) (j : Job) (s : State) : State :=
  let frame := if j.kind = .demount then some Lifecycle.demountComplete else none
  match params.drive with
  | none => s.endJob n frame
  | some d =>
    let s := s.takenByHand d
    let s := if (s.drive d).state = .awaitingPull then s.emptyDrive d else s
    let s := s.endJob n frame
    if j.drive.isNone then s.afterHandDemount d else s

/-- FIT_RING and REMOVE_RING DONE: the volume's ring changes, and the job is WAITING with the rest of its
legs (R99, R100). -/
def State.ringChanged (ring : RingState) (n : Nat) (j : Job) (s : State) : State :=
  let s := match j.volume with
    | some v => s.updateVolume v fun e => { e with ring := ring }
    | none => s
  (s.updateJob n fun j => { j with retryUsed := false }).setJobState n .waiting

/-- PLACE_IN_HATCH DONE: the volume stands in the bay, and the job is WAITING to take it home (R105). -/
def State.placedInHatch (n : Nat) (j : Job) (s : State) : State :=
  match j.hatchBay, j.volume with
  | some b, some v =>
    let s := (s.moveVolume v (.hatch b)).setHatch b (.holding v (some (j.ref n)))
    (s.updateJob n fun j =>
      { j with legs := [.hatchTake b, s.homeLeg j.volume], leg := 0, retryUsed := false })
      |>.setJobState n .waiting
  | _, _ => s

/-- TAKE_FROM_HATCH DONE: the volume of the bay moves to SHELF and the bay is FREE (R101, R104). -/
def State.takenFromHatch (b : HatchBay) (s : State) : State :=
  let s := match (s.station.hatch.get b).volume? with
    | some v => s.moveVolume v .shelf
    | none => s
  s.setHatch b .free

/-- DRIVE_SERVICE DONE: in SERVICE, the error count is 0, draining is clear and the drive is EMPTY; in any
other state nothing changes (R34, R35). -/
def State.driveServiced (d : DriveId) (s : State) : State :=
  if (s.drive d).state = .service then
    (s.updateDrive d fun e => { e with errorCount := 0, draining := false, state := .empty })
      |>.evalDriveService
  else s

/-- WRONG_REEL DONE: the job is released when its drive has unloaded (R58). -/
def State.wrongReelDone (n : Nat) (j : Job) (s : State) : State :=
  match j.drive with
  | some d =>
    if j.state = .held .wrongReel && (s.drive d).state = .awaitingPull then s.releaseWrongReel n d else s
  | none => s

/-- What DONE does, by the kind and owner of its prompt (R126). -/
def State.actDone (p : Prompt) (s : State) : State :=
  match p.kind, p.owner with
  | .mountByHand, .job r => s.toJob r State.mountedByHand
  | .demountByHand, .job r => s.toJob r (State.demountedByHand p.params)
  | .demountByHand, .drive d => (s.takenByHand d).afterHandDemount d
  | .fitRing, .job r => s.toJob r (State.ringChanged .ringIn)
  | .removeRing, .job r => s.toJob r (State.ringChanged .ringOut)
  | .placeInHatch, .job r => s.toJob r State.placedInHatch
  | .takeFromHatch, .hatch b => s.takenFromHatch b
  | .driveService, .drive d => s.driveServiced d
  | .wrongReel, .job r => s.toJob r State.wrongReelDone
  | _, _ => s

/-- REPLY_DONE (R126). -/
def execReplyDone (c : Console) (n : Nat) (s : State) : Answer := takeReply c n .done State.actDone s

/-! ### CANCEL -/

/-- FIT_RING CANCEL: the job turns home from the ring bay and its drive is released (R99). -/
def State.ringRefused (n : Nat) (j : Job) (s : State) : State :=
  match j.ringBay with
  | none => s
  | some b =>
    let s := (s.sendFailure n (.mountFailed .operatorCancel)).turnHomeFromRing n b
    let s := match j.drive with
      | some d => s.driveJobEnded n d
      | none => s
    (s.updateJob n fun j => { j with drive := none }).setJobState n .waiting

/-- The give-up of a FETCH: a CLEAN job takes another candidate, and any other job ends (R54). -/
def State.giveUpFetch (n : Nat) (j : Job) (s : State) : State :=
  if j.kind = .clean then s.dropVolume n else s.endJob n (j.failure .reelCheck .reelCheck)

/-- The give-up of a PULL: the drive goes to SERVICE holding the reel and the job ends (R33, R54). -/
def State.giveUpPull (n : Nat) (j : Job) (d : DriveId) (s : State) : State :=
  (s.enterService d).endJob n (if j.kind = .demount then some .demountFailedReelCheck else none)

/-- The give-up of a RING_TAKE: the operator takes the reel from the bay, and the job goes on by its kind
(R102). -/
def State.giveUpRing (n : Nat) (j : Job) (b : RingBay) (s : State) : State :=
  let s := match (s.station.ring.get b).volume? with
    | some v => s.moveVolume v .shelf
    | none => s
  let s := (s.setRing b .free).updateJob n fun j => { j with ringBay := none }
  if j.cancelled || j.returning then s.endJob n (if j.kind = .demount then some .demountComplete else none)
  else
    match j.kind with
    | .mount => s.holdEval n
    | .demount => s.endJob n (some .demountComplete)
    | .clean | .eject | .enter => s.endJob n none

/-- The give-up of a HATCH_TAKE: the reel is left in the hatch for an operator, and the job ends
(R102). -/
def State.giveUpHatch (n : Nat) (j : Job) (b : HatchBay) (s : State) : State :=
  let v := (s.station.hatch.get b).volume?
  let s := s.endJob n (j.failure .reelCheck .reelCheck)
  (s.setHatch b (heldBay v none)).postTakeFromHatch b v none none

/-- CHECK_REEL CANCEL of a job (R54, R102). -/
def State.checkCancelled (n : Nat) (j : Job) (s : State) : State :=
  match j.state with
  | .held .suspect => s.endJob n (some (.mountFailed .suspect))
  | .held .reelCheck =>
    match j.currentLeg with
    | some (.fetch _) => s.giveUpFetch n j
    | some (.pull d) => s.giveUpPull n j d
    | some (.ringTake b) => s.giveUpRing n j b
    | some (.hatchTake b) => s.giveUpHatch n j b
    | _ => s
  | _ => s

/-- VERIFY_VOLUME CANCEL: the volume stays UNCERTAIN (R55). -/
def State.verifyCancelled (n : Nat) (j : Job) (s : State) : State :=
  if j.chooses then s.dropVolume n else s.endJob n (j.failure .uncertain .uncertain)

/-- What CANCEL does, by the kind and owner of its prompt; a library's CHECK_REEL leaves its bay
(R62, R101, R105, R126). -/
def State.actCancel (p : Prompt) (s : State) : State :=
  match p.kind, p.owner with
  | .mountByHand, .job r => s.toJob r fun n _ s => s.endJob n (some (.mountFailed .operatorCancel))
  | .fitRing, .job r => s.toJob r State.ringRefused
  | .checkReel, .job r => s.toJob r State.checkCancelled
  | .verifyVolume, .job r => s.toJob r State.verifyCancelled
  | .placeInHatch, .job r => s.toJob r fun n _ s => s.endJob n (some (.moveFailed .operatorCancel))
  | _, _ => s

/-- REPLY_CANCEL (R126). -/
def execReplyCancel (c : Console) (n : Nat) (s : State) : Answer := takeReply c n .cancel State.actCancel s

/-! ### APPROVE and DENY (R56) -/

/-- APPROVE: an override is counted, and the job leaves its hold (R56). -/
def State.approved (n : Nat) (j : Job) (s : State) : State :=
  ((s.countOverride j.account).updateJob n fun j => { j with counted := .override }).unhold n

/-- DENY: the job ends MOUNT_FAILED ALLOWANCE (R56). -/
def State.denied (n : Nat) (s : State) : State := s.endJob n (some (.mountFailed .allowance))

/-- What APPROVE does to the owner of an APPROVE_MOUNT (R56). -/
def State.actApprove (p : Prompt) (s : State) : State :=
  match p.kind, p.owner with
  | .approveMount, .job r => s.toJob r State.approved
  | _, _ => s

/-- What DENY does to the owner of an APPROVE_MOUNT (R56). -/
def State.actDeny (p : Prompt) (s : State) : State :=
  match p.kind, p.owner with
  | .approveMount, .job r => s.toJob r fun n _ s => s.denied n
  | _, _ => s

/-- REPLY_APPROVE (R56). -/
def execReplyApprove (c : Console) (n : Nat) (s : State) : Answer :=
  takeReply c n .approve State.actApprove s

/-- REPLY_DENY (R56). -/
def execReplyDeny (c : Console) (n : Nat) (s : State) : Answer := takeReply c n .deny State.actDeny s

/-! ### RETRY, INCELL and OUTSIDE (R54, R55, R101) -/

/-- The suspect flag of a job's volume is cleared (R54). -/
def State.clearSuspect (j : Job) (s : State) : State :=
  match j.volume with
  | some v => s.updateVolume v fun e => { e with suspect := false }
  | none => s

/-- CHECK_REEL RETRY of a job (R54). -/
def State.checkRetried (n : Nat) (j : Job) (s : State) : State :=
  match j.state with
  | .held .suspect => (s.clearSuspect j).holdEval n
  | .held .reelCheck =>
    let s := if j.toFetch then s.clearSuspect j else s
    (s.updateJob n fun j => { j with retryUsed := false }).setJobState n .waiting
  | _ => s

/-- What RETRY does, by the owner of its CHECK_REEL (R54, R101). -/
def State.actRetry (p : Prompt) (s : State) : State :=
  match p.owner with
  | .job r => s.toJob r State.checkRetried
  | .library b => if s.station.ring.get b = .unknown then s.setRing b .free else s
  | .arm _ | .drive _ | .hatch _ => s

/-- REPLY_RETRY (R54). -/
def execReplyRetry (c : Console) (n : Nat) (s : State) : Answer := takeReply c n .retry State.actRetry s

/-- INCELL: the volume is at its home, and the job goes on (R55). -/
def State.foundInCell (n : Nat) (j : Job) (s : State) : State :=
  let s := match j.volume with
    | some v => s.moveVolume v (if (s.homeCell v).isSome then .cell else .shelf)
    | none => s
  if j.kind = .mount then s.holdEval n
  else (s.updateJob n fun j => { j with retryUsed := false }).setJobState n .waiting

/-- OUTSIDE: the volume is on the shelf (R55). -/
def State.foundOutside (n : Nat) (j : Job) (s : State) : State :=
  let s := match j.volume with
    | some v => s.moveVolume v .shelf
    | none => s
  if j.chooses then s.dropVolume n
  else if j.kind = .mount then s.holdEval n
  else s.endJob n (some (.moveFailed .notInLibrary))

/-- What INCELL does to the owner of a VERIFY_VOLUME (R55). -/
def State.actInCell (p : Prompt) (s : State) : State :=
  match p.owner with
  | .job r => s.toJob r State.foundInCell
  | .arm _ | .drive _ | .hatch _ | .library _ => s

/-- What OUTSIDE does to the owner of a VERIFY_VOLUME (R55). -/
def State.actOutside (p : Prompt) (s : State) : State :=
  match p.owner with
  | .job r => s.toJob r State.foundOutside
  | .arm _ | .drive _ | .hatch _ | .library _ => s

/-- REPLY_INCELL (R55). -/
def execReplyInCell (c : Console) (n : Nat) (s : State) : Answer := takeReply c n .inCell State.actInCell s

/-- REPLY_OUTSIDE (R55). -/
def execReplyOutside (c : Console) (n : Nat) (s : State) : Answer :=
  takeReply c n .outside State.actOutside s

/-! ### RESTORED, PARKED and REMOVED (R88 to R90) -/

/-- PARKED: a loaded hand is emptied as by REMOVED, and the arm stands PARKED at its rail end (R89). -/
def State.parkArm (x : ArmId) (s : State) : State :=
  let s := if (s.arm x).hand.isEmpty then s else s.reelRemoved x
  (s.updateArm x fun a =>
    { a with
      state := .parked, position := some (railEnd x), lastKnown := railEnd x
      claim := pointClaim (railEnd x), hand := .empty, job := none }).evalArmState

/-- What RESTORED does to the arm that owns an ARM_FAULT (R88). -/
def State.actRestored (p : Prompt) (s : State) : State :=
  match p.owner with
  | .arm x => s.rehome x true
  | .job _ | .drive _ | .hatch _ | .library _ => s

/-- What PARKED does to the arm that owns an ARM_FAULT (R89). -/
def State.actParked (p : Prompt) (s : State) : State :=
  match p.owner with
  | .arm x => s.parkArm x
  | .job _ | .drive _ | .hatch _ | .library _ => s

/-- What REMOVED does to the arm that owns an ARM_FAULT: it stays DISABLED and posts a new one (R90). -/
def State.actRemoved (p : Prompt) (s : State) : State :=
  match p.owner with
  | .arm x => (s.reelRemoved x).postArmFault x
  | .job _ | .drive _ | .hatch _ | .library _ => s

/-- REPLY_RESTORED (R88). -/
def execReplyRestored (c : Console) (n : Nat) (s : State) : Answer :=
  takeReply c n .restored State.actRestored s

/-- REPLY_PARKED (R89). -/
def execReplyParked (c : Console) (n : Nat) (s : State) : Answer := takeReply c n .parked State.actParked s

/-- REPLY_REMOVED (R90). -/
def execReplyRemoved (c : Console) (n : Nat) (s : State) : Answer :=
  takeReply c n .removed State.actRemoved s

/-! ### DEFER (R118) -/

/-- A prompt leaves a console's area for the top of its defer list, and its defer timer starts (R118). -/
def State.deferPrompt (c : Console) (n : Nat) (s : State) : State :=
  let before := s.promptPosition n
  let s := s.updateConsole c fun k =>
    { area := k.area.filter fun m => m ≠ n, deferred := n :: k.deferred }
  let s := s.updatePrompt n fun p =>
    { p with deferTimers := p.deferTimers.set c (.running s.policy.deferTicks) }
  (s.retime n before).settle c

/-- REPLY_DEFER (R118). -/
def execReplyDefer (c : Console) (n : Nat) (s : State) : Answer :=
  match s.judgeReply c n .defer with
  | .accepted =>
    if (s.console c).deferred.length < 4 then .next ((s.replyResult c n .accepted).deferPrompt c n)
    else .next (s.replyResult c n .listFull)
  | r => .next (s.replyResult c n r)

/-! ### A REPLY as it arrives (R124, R193) -/

/-- A REPLY with a word that is no reply word: it fails check 3 at the latest (R124). -/
def replyUnknown (c : Console) (n : Nat) (s : State) : Answer :=
  .next (s.replyResult c n (s.judgeWord c n fun _ => false))

/-- A REPLY by its word (R118, R124, R126). -/
def takeWord (c : Console) (n : Nat) (w : Option Word) (s : State) : Answer :=
  match w with
  | some .done => execReplyDone c n s
  | some .cancel => execReplyCancel c n s
  | some .approve => execReplyApprove c n s
  | some .deny => execReplyDeny c n s
  | some .retry => execReplyRetry c n s
  | some .inCell => execReplyInCell c n s
  | some .outside => execReplyOutside c n s
  | some .restored => execReplyRestored c n s
  | some .parked => execReplyParked c n s
  | some .removed => execReplyRemoved c n s
  | some .defer => execReplyDefer c n s
  | none => replyUnknown c n s

end Sys2Proof.Machine
end

