-- ==== Sys2Proof/Machine/Timers.lean ====
section
/-!
DEFINITION. The console's RECALL and REFRESH, its frames as they arrive, and the expiries of aging, reminder,
limit and defer timers (R59, R119 to R123, R129, R130, R193). An expiry acts while its timer is running (assumption log 6).
-/

namespace Sys2Proof.Machine

/-! ### RECALL and the return of a deferred prompt (R119, R120) -/

/-- A deferred prompt leaves a console's defer list and enters its area, its defer timer stopped (R119). -/
def State.returnPrompt (c : Console) (n : Nat) (s : State) : State :=
  let before := s.promptPosition n
  let s := s.updateConsole c fun k =>
    { area := k.area, deferred := k.deferred.filter fun m => m ≠ n }
  let s := s.updatePrompt n fun p => { p with deferTimers := p.deferTimers.set c .stopped }
  ((s.retime n before).enterArea c n).settle c

/-- How a deferred prompt may return to a console's area: at once, in place of the lowest-ranked prompt
there, or not at all (R119). -/
inductive Return where
  | room
  | inPlaceOf (number : Nat)
  | areaFull
  deriving DecidableEq, Repr

/-- Judges the return of a prompt to a console's area (R119). -/
def State.judgeReturn (c : Console) (p : Prompt) (s : State) : Return :=
  if (s.console c).area.length < 4 then .room
  else
    match worstPrompt (s.areaPrompts c) with
    | some l =>
      if severityRank l.severity < severityRank p.severity then .inPlaceOf l.number else .areaFull
    | none => .areaFull

/-- RECALL: the prompt at the top of the console's defer list returns to its area (R119). AREA_FULL carries
that prompt's number, which applies though it stays where it is (DESIGN CHOICE, assumption log 57). -/
def execRecall (c : Console) (s : State) : Answer :=
  match (s.console c).deferred with
  | [] => .next (s.tellConsole c (.replyResult none .nothingDeferred))
  | n :: _ =>
    match s.prompt? n with
    | none => .next (s.tellConsole c (.replyResult none .nothingDeferred))
    | some p =>
      match s.judgeReturn c p with
      | .room => .next ((s.replyResult c n .accepted).returnPrompt c n)
      | .inPlaceOf l => .next (((s.replyResult c n .accepted).displace c l).returnPrompt c n)
      | .areaFull => .next (s.replyResult c n .areaFull)

/-- DEFER_EXPIRY: the deferred prompt returns to the console's area by the rule of RECALL with no
REPLY_RESULT, or stays in its place with its defer timer started again (R120). -/
def execDeferExpiry (c : Console) (n : Nat) (s : State) : Answer :=
  match s.prompt? n with
  | none => .next s
  | some p =>
    if (s.console c).deferred.contains n && (p.deferTimers.get c).isRunning then
      match s.judgeReturn c p with
      | .room => .next (s.returnPrompt c n)
      | .inPlaceOf l => .next ((s.displace c l).returnPrompt c n)
      | .areaFull =>
        .next (s.updatePrompt n fun p =>
          { p with deferTimers := p.deferTimers.set c (.running s.policy.deferTicks) })
    else .next s

/-! ### REFRESH (R130) -/

/-- Puts a prompt into a list that stands in rank order (R115); the list's other prompts were posted
after it. -/
def insertRanked (p : Prompt) : List Prompt → List Prompt
  | [] => [p]
  | q :: rest =>
    if severityRank p.severity < severityRank q.severity then q :: insertRanked p rest else p :: q :: rest

/-- The prompts of a console's area in rank order (R115). -/
def State.areaRanked (s : State) (c : Console) : List Prompt := (s.areaPrompts c).foldr insertRanked []

/-- REFRESH: CLEAR_ALL, then a SHOW for each prompt of the area in rank order; nothing else changes
(R130). -/
def execRefresh (c : Console) (s : State) : Answer :=
  .next ((s.areaRanked c).foldl (fun t p => t.tellConsole c (.showPrompt p.shown))
    (s.tellConsole c .clearAll))

/-! ### Frames of a console line (R129, R193) -/

/-- The kinds a console line carries to the part (R129). -/
def consoleKinds (k : FrameKind) : Bool := k = .reply || k = .recall || k = .refresh

/-- A good console frame goes to Prompt Control (R193). The number and the word of a REPLY stand in its
payload in a layout the spec does not give. -/
def State.takeConsole (c : Console) (f : WireFrame) (s : State) : Answer :=
  match f.kindName with
  | .recall => execRecall c s
  | .refresh => execRefresh c s
  | _ => takeWord c (Config.replyNumber f.payload).toNat (Config.replyWord f.payload) s

/-- CONSOLE_FRAME_DISCARDED: a frame on a console line with a bad CRC, form or kind is discarded and logged.
A good one is a REPLY, RECALL or REFRESH and is taken as one (R129, R193; assumption log 31). -/
def execConsoleFrameDiscarded (c : Console) (f : WireFrame) (s : State) : Answer :=
  if !f.crcGood then .next (s.logError .badCheck .link { detail := some (.console c) })
  else if !f.lineFormGood consoleKinds then
    .next (s.logError .badFrame .link { detail := some (.consoleKind c f.kindName) })
  else s.takeConsole c f

/-! ### REMINDER (R121, R122) -/

/-- A frame about a prompt is sent to each console whose area holds it. -/
def State.tellHolders (n : Nat) (f : ConsoleFrame) (s : State) : State :=
  allConsoles.foldl (fun t c => if (t.console c).area.contains n then t.tellConsole c f else t) s

/-- A prompt is escalated (R122). -/
def State.escalate (n : Nat) (s : State) : State :=
  let s := s.updatePrompt n fun p =>
    { p with escalated := true, severity := .action, targets := { console0 := true, console1 := true } }
  match s.prompt? n with
  | none => s
  | some p =>
    ((s.tellHolders n (.showPrompt p.shown)).settleBoth).raiseEvent .promptEscalated
      (.promptEscalated n p.kind)

/-- The reminder count after a reminder, saturating at 7 (R121). -/
def remindedCount (p : Prompt) : Nat := saturate 7 (p.reminders + 1)

/-- A prompt's reminder timer expires (R121). -/
def State.remind (p : Prompt) (s : State) : State :=
  let count := remindedCount p
  let s := s.updatePrompt p.number fun q =>
    { q with reminders := count, reminderTimer := .running s.policy.reminderTicks }
  let s := s.tellHolders p.number (.remind p.number count)
  if s.policy.escalationCount ≤ count && !p.escalated then s.escalate p.number else s

/-- REMINDER (R121, R122). -/
def execReminder (n : Nat) (s : State) : Answer :=
  match s.prompt? n with
  | some p =>
    if s.promptPosition n = .shown && p.reminderTimer.isRunning then .next (s.remind p) else .next s
  | none => .next s

/-! ### LIMIT_EXPIRY (R123) -/

/-- What an expiry does for the owner: APPROVE_MOUNT takes the policy's default, and any other kind
changes nothing beyond the closing (R123). -/
def State.actExpired (p : Prompt) (s : State) : State :=
  match p.kind with
  | .approveMount =>
    match s.policy.approveDefault with
    | .approve => s.actApprove p
    | .deny => s.actDeny p
  | _ => s

/-- LIMIT_EXPIRY: the prompt closes EXPIRED and its owner is told (R123). -/
def execLimitExpiry (n : Nat) (s : State) : Answer :=
  match s.prompt? n with
  | some p =>
    if p.limitTimer.isRunning then
      .next (State.finish s (((s.closePrompt n .expired).forget p.owner n).actExpired p))
    else .next s
  | none => .next s

/-! ### AGING_EXPIRY (R59) -/

/-- A WAITING job's aging timer expires: its effective priority rises by 1 unless it is already 3, and the
timer starts again (R59). -/
def State.ageJob (n : Nat) (s : State) : State :=
  s.updateJob n fun j =>
    { j with
      effective := if 3 ≤ j.effective then j.effective else j.effective + 1
      aging := .running s.policy.agingTicks }

/-- AGING_EXPIRY (R59). -/
def execAgingExpiry (n : Nat) (s : State) : Answer :=
  match s.job? n with
  | some j =>
    if j.state = .waiting && j.aging.isRunning then .next (State.finish s (s.ageJob n)) else .next s
  | none => .next s

end Sys2Proof.Machine
end

