-- ==== Sys2Proof/Machine/Dispatch.lean ====
section
/-!
DEFINITION. The meaning of each command: one arm for each row of spec/opcode_table.json.
-/

namespace Sys2Proof.Machine

/-- What a command does to everything but the queue of commands. -/
def exec (i : Instr) (s : State) : Host.Outcome State Fault Refusal :=
  match i with
  | .powerOn door => Sys2Proof.Machine.execPowerOn door s
  | .resetLine => Sys2Proof.Machine.execResetLine s
  | .doorOpen => Sys2Proof.Machine.execDoorOpen s
  | .doorClose => Sys2Proof.Machine.execDoorClose s
  | .linkFrameArrival link frame => Sys2Proof.Machine.execLinkFrameArrival link frame s
  | .mount link tag request => Sys2Proof.Machine.execMount link tag request s
  | .demount link tag drive unload priority => Sys2Proof.Machine.execDemount link tag drive unload priority s
  | .cancel link tag target => Sys2Proof.Machine.execCancel link tag target s
  | .queryVolume link tag serial => Sys2Proof.Machine.execQueryVolume link tag serial s
  | .addVolumes link tag items => Sys2Proof.Machine.execAddVolumes link tag items s
  | .deleteVolume link tag serial => Sys2Proof.Machine.execDeleteVolume link tag serial s
  | .setHome link tag serial home => Sys2Proof.Machine.execSetHome link tag serial home s
  | .readVolume link tag query => Sys2Proof.Machine.execReadVolume link tag query s
  | .loadGeometry link tag items => Sys2Proof.Machine.execLoadGeometry link tag items s
  | .loadDrives link tag items => Sys2Proof.Machine.execLoadDrives link tag items s
  | .loadAccounts link tag items => Sys2Proof.Machine.execLoadAccounts link tag items s
  | .loadTariff link tag tariff => Sys2Proof.Machine.execLoadTariff link tag tariff s
  | .loadRouting link tag items => Sys2Proof.Machine.execLoadRouting link tag items s
  | .setPolicy link tag items => Sys2Proof.Machine.execSetPolicy link tag items s
  | .setClock link tag day second => Sys2Proof.Machine.execSetClock link tag day second s
  | .adjustClock link tag compensation => Sys2Proof.Machine.execAdjustClock link tag compensation s
  | .roundClock link tag => Sys2Proof.Machine.execRoundClock link tag s
  | .readClock link tag => Sys2Proof.Machine.execReadClock link tag s
  | .setClose link tag mode times => Sys2Proof.Machine.execSetClose link tag mode times s
  | .closePeriod link tag => Sys2Proof.Machine.execClosePeriod link tag s
  | .readRecords link tag => Sys2Proof.Machine.execReadRecords link tag s
  | .readClosed link tag index => Sys2Proof.Machine.execReadClosed link tag index s
  | .readAccount link tag index => Sys2Proof.Machine.execReadAccount link tag index s
  | .readErrors link tag => Sys2Proof.Machine.execReadErrors link tag s
  | .clearErrors link tag => Sys2Proof.Machine.execClearErrors link tag s
  | .readNotices link tag => Sys2Proof.Machine.execReadNotices link tag s
  | .clearNotices link tag classes => Sys2Proof.Machine.execClearNotices link tag classes s
  | .setNotices link tag items => Sys2Proof.Machine.execSetNotices link tag items s
  | .readStatus link tag => Sys2Proof.Machine.execReadStatus link tag s
  | .clearResetCause link tag => Sys2Proof.Machine.execClearResetCause link tag s
  | .start link tag => Sys2Proof.Machine.execStart link tag s
  | .quiesce link tag => Sys2Proof.Machine.execQuiesce link tag s
  | .resetWarm link tag => Sys2Proof.Machine.execResetWarm link tag s
  | .eject link tag serial priority => Sys2Proof.Machine.execEject link tag serial priority s
  | .enter link tag serial priority => Sys2Proof.Machine.execEnter link tag serial priority s
  | .ready drive writeEnabled label => Sys2Proof.Machine.execReady drive writeEnabled label s
  | .unloaded drive => Sys2Proof.Machine.execUnloaded drive s
  | .check drive code => Sys2Proof.Machine.execCheck drive code s
  | .usage drive blocksRead blocksWritten correctable => Sys2Proof.Machine.execUsage drive blocksRead blocksWritten correctable s
  | .driveStatus drive frame => Sys2Proof.Machine.execDriveStatus drive frame s
  | .completionDone tag position handLoaded => Sys2Proof.Machine.execCompletionDone tag position handLoaded s
  | .completionFault tag position cause => Sys2Proof.Machine.execCompletionFault tag position cause s
  | .loadTimeout drive => Sys2Proof.Machine.execLoadTimeout drive s
  | .cleanTimeout drive => Sys2Proof.Machine.execCleanTimeout drive s
  | .motionTimeout arm => Sys2Proof.Machine.execMotionTimeout arm s
  | .agingExpiry job => Sys2Proof.Machine.execAgingExpiry job s
  | .reminder prompt => Sys2Proof.Machine.execReminder prompt s
  | .limitExpiry prompt => Sys2Proof.Machine.execLimitExpiry prompt s
  | .deferExpiry console prompt => Sys2Proof.Machine.execDeferExpiry console prompt s
  | .secondAdvance => Sys2Proof.Machine.execSecondAdvance s
  | .replyDefer console prompt => Sys2Proof.Machine.execReplyDefer console prompt s
  | .replyDone console prompt => Sys2Proof.Machine.execReplyDone console prompt s
  | .replyCancel console prompt => Sys2Proof.Machine.execReplyCancel console prompt s
  | .replyApprove console prompt => Sys2Proof.Machine.execReplyApprove console prompt s
  | .replyDeny console prompt => Sys2Proof.Machine.execReplyDeny console prompt s
  | .replyRetry console prompt => Sys2Proof.Machine.execReplyRetry console prompt s
  | .replyInCell console prompt => Sys2Proof.Machine.execReplyInCell console prompt s
  | .replyOutside console prompt => Sys2Proof.Machine.execReplyOutside console prompt s
  | .replyRestored console prompt => Sys2Proof.Machine.execReplyRestored console prompt s
  | .replyParked console prompt => Sys2Proof.Machine.execReplyParked console prompt s
  | .replyRemoved console prompt => Sys2Proof.Machine.execReplyRemoved console prompt s
  | .recall console => Sys2Proof.Machine.execRecall console s
  | .refresh console => Sys2Proof.Machine.execRefresh console s
  | .timeBaseTick => Sys2Proof.Machine.execTimeBaseTick s
  | .robotLinkFrameDiscarded frame => Sys2Proof.Machine.execRobotLinkFrameDiscarded frame s
  | .consoleFrameDiscarded console frame => Sys2Proof.Machine.execConsoleFrameDiscarded console frame s

end Sys2Proof.Machine
end

