-- ==== Sys2Proof/Machine/Intake.lean ====
section
/-!
DEFINITION. Which frame the part takes from its intake queues, and the command that frame is (R183).
-/

namespace Sys2Proof.Machine

/-- The links whose intake queue holds a frame, ascending. -/
def State.fullLinks (s : State) : List Link := allLinks.filter fun l => !(s.intake.get l).queue.isEmpty

/-- Which of the links that hold frames is served: the free value's link when it is one of them, and
otherwise the first after it, going round (R183; assumption log 4). -/
def nextLink (turn : Link) (links : List Link) : Option Link :=
  match links.find? fun l => decide (turn ≤ l) with
  | some l => some l
  | none => links.head?

/-- The link whose front frame is taken next. With one link holding frames there is no choice; with more,
the choice is free and is counted. -/
def State.servedLink (s : State) : Option (Link × Nat) :=
  match s.fullLinks with
  | [] => none
  | [l] => some (l, s.choices)
  | links => (nextLink (Config.intakeTurn s.choices) links).map fun l => (l, s.choices + 1)

/-- A frame leaves the front of a link's intake queue, with the command it is. A frame of a kind that is
no library kind, which no queue takes in (R181), is none. -/
def State.takeFrame (s : State) : Option (Instr × State) :=
  match s.servedLink with
  | none => none
  | some (l, choices) =>
    match (s.intake.get l).queue with
    | [] => none
    | f :: rest =>
      (frameCommand l f).map fun c =>
        (c, { s with
          intake := s.intake.update l fun i => { i with queue := rest }
          choices := choices })

end Sys2Proof.Machine
end

