-- ==== Sys2Proof/Machine/Step.lean ====
section
/-!
DEFINITION. One step of the part: the command at the front of the queue is taken, and with none waiting the
part serves its intake queues (R183; assumption log 1).
-/

namespace Sys2Proof.Machine

/-- One step: the command at the front of the queue is taken with the queue's rest; with none waiting, the
frame at the front of an intake queue is handed on, and with none there either the part idles. -/
def step (s : State) : Host.Outcome State Fault Refusal :=
  match s.pending with
  | c :: rest => exec c { s with pending := rest }
  | [] =>
    match s.takeFrame with
    | some (c, s') => exec c s'
    | none => .next s

/-- The state with the command that a word of the table's bits spells put at the front of its queue; a
word spells none. -/
def State.withFetchWord (s : State) (nbits w : Nat) : State :=
  match decodeTableWord nbits w with
  | some c => { s with pending := c :: s.pending }
  | none => s

end Sys2Proof.Machine
end

