-- ==== Sys2Proof/Machine/Output.lean ====
section
/-!
DEFINITION. The frames that go out on the wire for each frame sent: destinations, origins, kinds, tags,
payloads, and the cutting of long contents into trains (R181, R182, R185, R188, R192, R193, R197, R199).
-/

namespace Sys2Proof.Machine

/-! ### Responses (R185) -/

/-- The number of a result in the list of R185; its code on the wire is free. -/
def Result.number : Result → Nat
  | .accepted | .acceptedJob _ | .acceptedItems _ | .acceptedActive | .acceptedPending
  | .acceptedCompensation _ | .acceptedTime _ _ | .clock _ | .volume _ | .records _ _ | .closedSlot _
  | .account _ | .errors _ | .notices _ | .status _ => 0
  | .badFrame => 1
  | .busy => 2
  | .notPermitted => 3
  | .wrongMode => 4
  | .badRequest => 5
  | .badDrive => 6
  | .driveUnavailable => 7
  | .driveBusy => 8
  | .listFull => 9
  | .volumeInUse | .volumeInUseByJob _ | .volumeInUseAt _ => 10
  | .nothingMounted => 11
  | .noSuchJob => 12
  | .tooLate => 13
  | .noSuchVolume => 14
  | .notInLibrary => 15
  | .locationUnknown => 16
  | .homeIsShelf => 17
  | .alreadyHome => 18
  | .tableReject _ | .tableRejectReason _ | .tableRejectTariff _ _ => 19
  | .startReject _ => 20
  | .notRunning => 21
  | .endOfMap => 22
  | .emptySlot => 23

/-- Error entries in groups of three, in their order (R197); at most `fuel` groups. -/
def byThree : (fuel : Nat) → List ErrorEntry → List (List ErrorEntry)
  | 0, _ => []
  | _ + 1, [] => []
  | fuel + 1, e :: rest => (e :: rest.take 2) :: byThree fuel (rest.drop 2)

/-- The payloads of a response, which begins with the kind answered and the result code (R185): READ_RECORDS
and READ_ERRORS are answered by trains of their own making (R188, R197), a volume entry stands in the layout
of R192, and any other content, of free layout, is cut as it is long. -/
def responseParts (k : FrameKind) (r : Result) : List (List Byte) :=
  let head := [FrameKind.code k, Config.resultByte r.number]
  match r with
  | .records taken left =>
    (head ++ Config.recordsHead taken.length left) :: taken.map recordBytes
  | .errors e => (head ++ Config.errorsHead e) :: (byThree 6 e.entries).map Config.errorEntries
  | .volume e => [head ++ volumeEntryBytes e]
  | r => cutContent 8 (head ++ Config.resultData r)

/-! ### The other frames of a request link -/

/-- The kind of a lifecycle frame (R66). -/
def Lifecycle.kind : Lifecycle → FrameKind
  | .mountComplete _ => .mountComplete
  | .mountFailed _ => .mountFailed
  | .demountComplete => .demountComplete
  | .demountFailedReelCheck => .demountFailed
  | .moveComplete => .moveComplete
  | .moveFailed _ => .moveFailed
  | .cancelled => .cancelled

/-- The kind of a status frame of the drive string (R21). -/
def DriveFrame.kind : DriveFrame → FrameKind
  | .ready _ _ => .ready
  | .unloaded => .unloaded
  | .check _ => .check
  | .usage _ _ _ => .usage
  | .other f => f.kindName

/-- The frames of a request link: destination 17, origin the library, and the tag of the frame answered, of
the job's origin or of the command, or 0 for LIBRARY_RESET and NOTICE (R185). A status frame comes from its
drive, and one the part does not read goes on as it came (R20). -/
def LinkFrame.frames : LinkFrame → List WireFrame
  | .response tag k r => formTrain 17 16 .response tag (responseParts k r)
  | .lifecycle tag f job drive serial =>
    formTrain 17 16 f.kind tag (cutContent 8 (Config.lifecycleData f job drive serial))
  | .mountPending tag d => formTrain 17 16 .mountPending tag (cutContent 8 (Config.pendingData d))
  | .libraryReset cause mode => formTrain 17 16 .libraryReset 0 (cutContent 8 (Config.resetData cause mode))
  | .notice data => formTrain 17 16 .notice 0 (cutContent 8 (Config.noticeData data))
  | .status _ (.other f) => [f]
  | .status d f => formTrain 17 d.val f.kind Config.statusTag.toNat (cutContent 8 (Config.statusData f))

/-! ### The drive string, the robot link and the console lines -/

/-- The frames of the drive string: a command as it came, and an injected REWIND_UNLOAD with the library as
its origin (R19, R30). -/
def StringFrame.frames : StringFrame → List WireFrame
  | .command f => [f]
  | .rewindUnload d => formTrain d.val 16 .rewindUnload Config.rewindTag.toNat [Config.rewindPayload]

/-- The frame of an order or a STOP: destination 18, one part of one, and the order's tag, 255 for STOP
(R193). -/
def RobotFrame.frames (f : RobotFrame) : List WireFrame := formTrain 18 16 .order (robotTag f) [robotBytes f]

/-- The kind of a console frame (6.8). -/
def ConsoleFrame.kind : ConsoleFrame → FrameKind
  | .showPrompt _ => .showPrompt
  | .remind _ _ => .remind
  | .remove _ _ => .remove
  | .clearAll => .clearAll
  | .replyResult _ _ => .replyResult

/-- The payload of a console frame; SHOW has the layout of R193. -/
def ConsoleFrame.payload : ConsoleFrame → List Byte
  | .showPrompt p => showBytes p
  | f => Config.consoleData f

/-- The frame of a console line: destination 19 or 20, one part of one, tag 0 (R193). -/
def ConsoleFrame.frames (c : Console) (f : ConsoleFrame) : List WireFrame :=
  formTrain (19 + c.val) 16 f.kind 0 [f.payload]

/-- The frames that go out on the connection of a frame sent, in their order and with none between them
(R182). -/
def Sent.frames : Sent → List WireFrame
  | .link _ f => f.frames
  | .string f => f.frames
  | .robot f => f.frames
  | .console c f => f.frames c

end Sys2Proof.Machine
end

