-- ==== Sys2Proof/Safety.lean ====
section
/-!
DEFINITION. What statements about the machine are made of: a safe run, the blocks of the part and what a
command leaves unchanged in them, the frames sent first, and the invariants every step keeps.
-/

namespace Sys2Proof

open Machine

/-! ### Safe runs -/

/-- An outcome that goes on. -/
def goesOn : Host.Outcome State Fault Refusal → Bool
  | .next _ => true
  | .fault _ | .refused _ => false

/-- The state a step answers, and the state it was given when the step stops. -/
def stateAfter (s : State) : Host.Outcome State Fault Refusal → State
  | .next t => t
  | .fault _ | .refused _ => s

/-- Each of the next `n` steps goes on. -/
def runsSafely : Nat → State → Bool
  | 0, _ => true
  | n + 1, s => goesOn (step s) && runsSafely n (stateAfter s (step s))

/-! ### Frames of a command's effect -/

/-- The blocks of the part whose state a command may change. -/
inductive Block where
  | intake | map | drives | work | arms | station | desk | clock | accounting | errors | notices
  | causes | control | policy
  deriving DecidableEq, Repr

/-- A block stands in `t` as in `s`. -/
def agree (b : Block) (s t : State) : Prop :=
  match b with
  | .intake => t.intake = s.intake
  | .map => t.map = s.map
  | .drives => t.drives = s.drives
  | .work => t.work = s.work
  | .arms => t.arms = s.arms
  | .station => t.station = s.station
  | .desk => t.desk = s.desk
  | .clock => t.clock = s.clock
  | .accounting => t.accounting = s.accounting
  | .errors => t.errors = s.errors
  | .notices => t.notices = s.notices
  | .causes => t.causes = s.causes
  | .control => t.control = s.control
  | .policy => t.policy = s.policy

/-- Every block but those named stands in `t` as in `s`, and so do the queue of commands and the count of
free choices. -/
def unchangedBut (bs : List Block) (s t : State) : Prop :=
  (∀ b, b ∉ bs → agree b s t) ∧ t.pending = s.pending ∧ t.choices = s.choices

/-- The blocks an event's aftermath may change: the Scheduler's grants, the arms' orders, bays, prompts and
modes (R60, R77, R97, R173, R175). -/
def aftermath : List Block := [.drives, .work, .arms, .station, .desk, .notices, .control]

/-- From `s` to `t` the part has sent `f` first, and then what it may. -/
def sentFirst (f : Sent) (s t : State) : Prop := ∃ rest, t.sent = s.sent ++ f :: rest

/-- From `s` to `t` the part has sent `f`, among what it sent. -/
def sentAmong (f : Sent) (s t : State) : Prop := ∃ fs, t.sent = s.sent ++ fs ∧ f ∈ fs

/-- From `s` to `t` the part has sent these frames and after them nothing but NOTICE frames (R199). -/
def sentThenNotices (fs : List Sent) (s t : State) : Prop :=
  ∃ ns, t.sent = s.sent ++ fs ++ ns ∧ ∀ f ∈ ns, ∃ d, f = .link s.notices.link (.notice d)

/-- `s` with these frames sent and nothing else changed. -/
def afterSending (fs : List Sent) (s : State) : State := { s with sent := s.sent ++ fs }

/-- The response to a library frame taken from a link (R185). -/
def response (l : Link) (tag : Nat) (k : FrameKind) (r : Result) : Sent := .link l (.response tag k r)

/-- Management frames are taken from the link (R184). -/
abbrev permits (s : State) (l : Link) : Prop := (s.intake.get l).permitted = true

/-- From `s` to `t` an error has been logged: its entry bears the counter's value of `s` and the stamp of
`s`, and stands in the ring (R195, R196). -/
def logged (k : ErrorKind) (g : ErrorSeverity) (s t : State) : Prop :=
  ∃ e ∈ t.errors.ring, e.kind = k ∧ e.severity = g ∧ e.number = s.errors.counter ∧ e.stamp = s.stamp

/-- Neither arm can be offered a run (R60, R78). -/
abbrev noIdleArm (s : State) : Prop := s.isIdle .a = false ∧ s.isIdle .b = false

/-- Job `i` goes before job `k` in assignment order (R59): the higher effective priority first, then the lower
kind rank, then the earlier admission. -/
abbrev goesBefore (i k : Job) : Prop :=
  k.effective < i.effective ∨ i.effective = k.effective ∧
    (i.kind.rank < k.kind.rank ∨ i.kind.rank = k.kind.rank ∧ i.sequence < k.sequence)

/-- An assignment pass that considers this job passes over it: however its run is formed, a target is without
its position or no arm qualifies for it (R60, R78). -/
abbrev passedOver (s : State) (j : Job) : Prop :=
  j.poolWanted = none ∧ ∀ r ∈ s.runOptions j,
    s.positionsSet .a (runOf r.legs) = false ∨
      s.armQualifies (runOf r.legs) j.volume .a = false ∧ s.armQualifies (runOf r.legs) j.volume .b = false

/-- The link, tag and kind of a management frame (R188); a command that is none has none. -/
def Instr.management : Instr → Option (Link × Nat × FrameKind)
  | .addVolumes l t _ => some (l, t, .addVolumes)
  | .deleteVolume l t _ => some (l, t, .deleteVolume)
  | .setHome l t _ _ => some (l, t, .setHome)
  | .readVolume l t _ => some (l, t, .readVolume)
  | .loadGeometry l t _ => some (l, t, .loadGeometry)
  | .loadDrives l t _ => some (l, t, .loadDrives)
  | .loadAccounts l t _ => some (l, t, .loadAccounts)
  | .loadTariff l t _ => some (l, t, .loadTariff)
  | .loadRouting l t _ => some (l, t, .loadRouting)
  | .setPolicy l t _ => some (l, t, .setPolicy)
  | .setClock l t _ _ => some (l, t, .setClock)
  | .adjustClock l t _ => some (l, t, .adjustClock)
  | .roundClock l t => some (l, t, .roundClock)
  | .readClock l t => some (l, t, .readClock)
  | .setClose l t _ _ => some (l, t, .setClose)
  | .closePeriod l t => some (l, t, .closePeriod)
  | .readRecords l t => some (l, t, .readRecords)
  | .readClosed l t _ => some (l, t, .readClosed)
  | .readAccount l t _ => some (l, t, .readAccount)
  | .readErrors l t => some (l, t, .readErrors)
  | .clearErrors l t => some (l, t, .clearErrors)
  | .readNotices l t => some (l, t, .readNotices)
  | .clearNotices l t _ => some (l, t, .clearNotices)
  | .setNotices l t _ => some (l, t, .setNotices)
  | .readStatus l t => some (l, t, .readStatus)
  | .clearResetCause l t => some (l, t, .clearResetCause)
  | .start l t => some (l, t, .start)
  | .quiesce l t => some (l, t, .quiesce)
  | .resetWarm l t => some (l, t, .resetWarm)
  | .eject l t _ _ => some (l, t, .eject)
  | .enter l t _ _ => some (l, t, .enter)
  | .powerOn _ | .resetLine | .doorOpen | .doorClose | .linkFrameArrival _ _ | .mount _ _ _
  | .demount _ _ _ _ _ | .cancel _ _ _ | .queryVolume _ _ _ | .ready _ _ _ | .unloaded _ | .check _ _
  | .usage _ _ _ _ | .driveStatus _ _ | .completionDone _ _ _ | .completionFault _ _ _ | .loadTimeout _
  | .cleanTimeout _ | .motionTimeout _ | .agingExpiry _ | .reminder _ | .limitExpiry _ | .deferExpiry _ _
  | .secondAdvance | .replyDefer _ _ | .replyDone _ _ | .replyCancel _ _ | .replyApprove _ _
  | .replyDeny _ _ | .replyRetry _ _ | .replyInCell _ _ | .replyOutside _ _ | .replyRestored _ _
  | .replyParked _ _ | .replyRemoved _ _ | .recall _ | .refresh _ | .timeBaseTick
  | .robotLinkFrameDiscarded _ | .consoleFrameDiscarded _ _ => none

/-- The command of a REPLY with a word (R124). -/
def replyCommand (c : Console) (n : Nat) : Machine.Word → Instr
  | .done => .replyDone c n
  | .cancel => .replyCancel c n
  | .approve => .replyApprove c n
  | .deny => .replyDeny c n
  | .retry => .replyRetry c n
  | .inCell => .replyInCell c n
  | .outside => .replyOutside c n
  | .restored => .replyRestored c n
  | .parked => .replyParked c n
  | .removed => .replyRemoved c n
  | .defer => .replyDefer c n

/-- The configuration is complete (R17, R172): positions set for the configured drives, the bays and the
home columns, the configured drives apart by the separation, and at least one drive configured, each with
an owning link of 0 to 3. -/
def readyToStart (s : State) : Prop :=
  (∀ d, (s.drive d).configured = true → s.map.drivePositions.get d ≠ none) ∧
    (∀ b, s.map.ringPositions.get b ≠ none) ∧ (∀ b, s.map.hatchPositions.get b ≠ none) ∧
    (∀ u ∈ s.map.volumes, ∀ c, u.2.home = .cell c → columnIndex c.rack c.column < 256 →
      s.cellPosition c ≠ none) ∧
    (∀ i j p q, i < j → (s.drive i).configured = true → (s.drive j).configured = true →
      s.map.drivePositions.get i = some p → s.map.drivePositions.get j = some q →
      p + s.map.separation ≤ q ∨ q + s.map.separation ≤ p) ∧
    (∃ d, (s.drive d).configured = true) ∧
    ∀ d, (s.drive d).configured = true → (s.drive d).owningLink ≤ 3

/-- An account may make one more mount without approval (R161). -/
abbrev withinAllowance (s : State) (a : AccountId) : Prop :=
  (s.accounting.accounts.get a).allowance = 0 ∨
    (s.accounting.accounts.get a).live.mountsUsed < (s.accounting.accounts.get a).allowance

/-- A MOUNT passes every check of admission (R45): it is for drive `d` and takes the free entry `n`. -/
abbrev mountAdmits (s : State) (l : Link) (tag : Nat) (r : MountRequest) (d : DriveId) (n : Nat) : Prop :=
  s.mode.governing = some .run ∧ s.mountWellFormed l tag r = true ∧ r.drive = d.val ∧
    (s.drive d).configured = true ∧ (s.drive d).draining = false ∧ (s.drive d).state = .empty ∧
    (s.drive d).job = none ∧ s.freeJob = some n ∧
    ∀ v ∈ s.mountVolume r, s.mountable v = true

/-- A prompt is open, shown on a console, and takes a reply word (R124). -/
abbrev takes (s : State) (c : Console) (n : Nat) (w : Machine.Word) (p : Prompt) : Prop :=
  s.prompt? n = some p ∧ n ∈ (s.console c).area ∧ w ∈ p.allowed

/-- The time charge and fee of a record of an occupancy at a drive (R150, stages 1, 2 and 4): each band's
seconds in minutes, a part minute whole, at the rate of the drive's class, and the fee while it is
pending. -/
def timeAndFee (s : State) (d : DriveId) (o : Occupancy) : Nat :=
  let rate := (s.accounting.active.rates.get (s.drive d).driveClass).get
  let seconds := o.bandSeconds.get
  (if o.feePending = true then s.accounting.active.fees.get (mountKindIndex o.mountKind) else 0) +
    ((seconds 0 + 59) / 60 * rate 0 + (seconds 1 + 59) / 60 * rate 1 +
      (seconds 2 + 59) / 60 * rate 2 + (seconds 3 + 59) / 60 * rate 3)

/-- The transfer charge of the FINAL record of an occupancy at a drive (R150, stage 3). -/
def transferOf (s : State) (d : DriveId) (o : Occupancy) : Nat :=
  (o.blocksRead + o.blocksWritten + 999) / 1000 * s.accounting.active.transfers.get (s.drive d).driveClass

/-- What the records of an occupancy at a drive have in common when they are computed in `s` (R149, R154,
R163). That the serial is the one the map holds in `s` is assumption log 70. -/
def recordOf (s : State) (d : DriveId) (o : Occupancy) (r : Record) : Prop :=
  r.sequence = s.accounting.recordSequence ∧ r.period = s.accounting.period ∧ r.account = o.account ∧
    r.code = (s.accounting.accounts.get o.account).code ∧ r.drive = d ∧ r.mountKind = o.mountKind ∧
    r.volumeSerial = (o.volume.bind s.volume?).map Volume.serial ∧ r.origin = o.origin ∧
    r.start = o.recordStart ∧ r.finish = s.stamp ∧ r.bandSeconds = o.bandSeconds

/-- The form check of a frame on a request link passes (R181, R182). -/
abbrev goodForm (f : WireFrame) : Prop :=
  f.length.toNat ≤ 60 ∧ f.length.toNat = f.payload.length ∧ f.destination.toNat ≤ 16 ∧
    1 ≤ f.train.toNat / 16 ∧ f.train.toNat / 16 ≤ 8 ∧ 1 ≤ f.train.toNat % 16 ∧
    f.train.toNat % 16 ≤ f.train.toNat / 16 ∧
    (if f.destination.toNat = 16 then f.kindName.isLibrary = true else f.train = 17#8)

/-- The form check of a frame on the robot link or a console line passes: for the library, one part of one,
of a kind the line carries (R193). -/
abbrev goodLineForm (kinds : List FrameKind) (f : WireFrame) : Prop :=
  f.length.toNat ≤ 60 ∧ f.length.toNat = f.payload.length ∧ f.destination.toNat = 16 ∧
    f.train = 17#8 ∧ f.kindName ∈ kinds

/-- No cleaning is due at a drive: its clean interval is 0 or not yet reached (R33, R37). -/
abbrev notDue (e : Drive) : Prop := e.cleanInterval = 0 ∨ e.mountsSinceClean < e.cleanInterval

/-- A CANCEL from a link names the job of this number: by the tag of its origin, or by its number with
management permission (R63). -/
abbrev cancels (s : State) (l : Link) (n : Nat) : CancelTarget → Prop
  | .byTag t => s.jobByTag l t = some n
  | .byNumber m => m = n ∧ permits s l

/-- The positions in which R64 refuses a CANCEL for a job whose cancelled flag is clear. -/
abbrev tooLate (j : Job) : Prop :=
  j.returning = true ∨ j.state = .held .wrongReel ∨ j.state = .held .hatchFull ∧ j.stowFaulted = true ∨
    j.kind = .demount ∧ (j.state = .assigned ∨ j.state = .atRing ∨
      j.state ≠ .unloadWait ∧ j.state ≠ .manual ∧ ∀ d, j.legs[j.leg]? ≠ some (.pull d)) ∨
    j.kind = .clean ∧ j.state ≠ .held .hatchFull ∧
      (j.state = .cleanWait ∨ j.state = .manual ∨ ∃ d, j.legs.head? = some (.pull d)) ∨
    j.kind = .enter ∧ j.state ≠ .held .hatchFull ∧ j.state ≠ .manual

/-- An order with this tag is in flight on arm `x` alone (R68, R73). -/
abbrev flies (s : State) (x : ArmId) (tag : Nat) (o : Order) : Prop :=
  (s.arm x).inFlight = some { tag := tag, order := o } ∧
    (s.arm (otherArm x)).inFlight.map InFlight.tag ≠ some tag

/-- Arm `x` runs for the job of this number (R42, R68). -/
abbrev worksFor (s : State) (x : ArmId) (n : Nat) (j : Job) : Prop :=
  (s.arm x).job = some (j.ref n) ∧ s.job? n = some j ∧ j.arm = some x

/-- From `s` to `t` the origin of a job, if it has one, is sent a lifecycle frame (R66). -/
def toldOrigin (n : Nat) (j : Job) (f : Lifecycle) (s t : State) : Prop :=
  ∀ o, j.origin = some o → sentAmong (.link o.link (.lifecycle o.tag f n j.drive j.serial)) s t

/-- A prompt of this kind and owner is open. -/
abbrev asks (s : State) (k : PromptKind) (o : Owner) : Prop := ∃ p ∈ s.desk.prompts, p.kind = k ∧ p.owner = o

/-- The prompt table has a free entry and no prompt is owed (R113). -/
abbrev deskOpen (s : State) : Prop := s.desk.prompts.length < 32 ∧ s.desk.owed = []

/-- A SHOW frame of a prompt on a console (R116). -/
def showing (c : Console) (p : Prompt) : Sent := .console c (.showPrompt p.shown)

/-! ### The state after a warm reset -/

/-- A volume's location after a warm reset of `s` (R18). -/
def locationAfterReset (s : State) : Location → Location
  | .arm _ | .ring _ => .uncertain
  | .drive d => if (s.drive d).state = .loading then .uncertain else .drive d
  | l => l

/-- The prompts that are posted afresh at a warm reset that leaves `t`, as owner, kind and parameters: of each
drive in SERVICE, ascending, DEMOUNT_BY_HAND for the volume it holds or else DRIVE_SERVICE, and then of each
hatch bay that holds a reel TAKE_FROM_HATCH (R40, R108, R132). -/
def freshPrompts (t : State) : List (Owner × PromptKind × PromptParams) :=
  (allDrives.filter fun d => (t.drive d).state = .service).map (fun d =>
    match t.locatedAt (.drive d) with
    | some v => (.drive d, .demountByHand, { drive := some d, serial := t.serialOf v })
    | none => (.drive d, .driveService, { drive := some d })) ++
  (allHatchBays.filter fun b => t.station.hatch.get b ≠ .free).map fun b =>
    match t.station.hatch.get b with
    | .holding v _ => (.hatch b, .takeFromHatch, { bay := some (.hatch b), serial := t.serialOf v })
    | _ => (.hatch b, .takeFromHatch, { bay := some (.hatch b) })

/-- The number of the prompt posted `i`-th, from 0, when the counter stands at `n` and no number is passed
over (R111). -/
def promptNumber (n i : Nat) : Nat := if i = 0 then n else (n + i - 1) % 9999 + 1

/-- The number of the open prompt of an owner and kind. -/
def promptOf (t : State) (o : Owner) (k : PromptKind) : Option Nat :=
  (t.desk.prompts.find? fun p => p.owner = o && p.kind = k).map Prompt.number

/-- What a warm reset of `s` leaves in `t`, block by block (R179). -/
structure WarmReset (s t : State) : Prop where
  /-- R178. -/
  mode : t.control.mode =
    if s.control.mode = .configure then .configure
    else if s.control.door = .closed then .quiesced else .safe .quiesced
  forced : t.control.quiesceForced = false
  door : t.control.door = s.control.door
  /-- R179, R184, R194. -/
  intake : ∀ l, t.intake.get l =
    { queue := [], train := none, permitted := (s.intake.get l).permitted }
  /-- R15, R18. -/
  volumes : ∀ v, t.volume? v =
    (s.volume? v).map fun e => { e with location := locationAfterReset s e.location }
  geometry : t.map = { s.map with volumes := t.map.volumes }
  /-- R40. -/
  drives : ∀ d, t.drive d =
    { s.drive d with
      state := if (s.drive d).state = .reserved ∨ (s.drive d).state = .loading then .empty
        else (s.drive d).state
      job := none, loadTimer := .stopped, cleaningTimer := .stopped
      servicePrompt := promptOf t (.drive d) .driveService
      handDemountPrompt := promptOf t (.drive d) .demountByHand }
  /-- R67. -/
  jobs : t.work.jobs = []
  owed : ∀ d, t.work.owed.get d = none
  admission : t.work.nextSequence = s.work.nextSequence
  /-- R94. -/
  arms : ∀ x, t.arm x =
    { s.arm x with
      state := .unhomed, position := none, hand := .empty, claim := none, heldClaim := none
      inFlight := none, interrupted := none, nextOrder := none, supervision := .stopped
      lastTimedOut := none, job := none, faultPrompt := none, homeDue := false }
  tags : t.arms.tagCounter = s.arms.tagCounter
  /-- R108. -/
  ringBays : ∀ b, t.station.ring.get b = .free
  hatchBays : ∀ b, t.station.hatch.get b =
    match s.station.hatch.get b with
    | .free | .reserved _ => .free
    | .holding v _ => .holding v none
    | .unknown => .unknown
  /-- R132. -/
  prompts : t.desk.prompts.map (fun p => (p.owner, p.kind, p.params)) = freshPrompts t
  afresh : ∀ p ∈ t.desk.prompts, p.escalated = false ∧ p.reminders = 0 ∧ p.posted = s.stamp ∧
    p.targets = s.desk.routing.get (promptKindIndex p.kind)
  numbers : t.desk.prompts.map Prompt.number =
    (List.range (freshPrompts t).length).map (promptNumber s.desk.nextNumber)
  counter : t.desk.nextNumber = promptNumber s.desk.nextNumber (freshPrompts t).length
  consoles : ∀ c, (t.console c).deferred = [] ∧
    (∀ n ∈ (t.console c).area, ∃ p ∈ t.desk.prompts, p.number = n ∧ targetsInclude p.targets c = true) ∧
    (t.console c).area.length =
      min 4 (t.desk.prompts.filter fun p => targetsInclude p.targets c).length
  owedPrompts : t.desk.owed = []
  routing : t.desk.routing = s.desk.routing
  /-- R146, R168, R179, R190. -/
  kept : agree .clock s t ∧ agree .accounting s t ∧ agree .errors s t ∧ agree .policy s t
  /-- R202. -/
  enables : t.notices.link = s.notices.link ∧ t.notices.clearOnRead = s.notices.clearOnRead ∧
    ∀ c, (t.notice c).raiseEnable = (s.notice c).raiseEnable ∧
      (t.notice c).clearEnable = (s.notice c).clearEnable
  pendingSet : ∀ c, (t.notice c).pending = true → c = .modeChange
  armLevel : (t.notice .armState).level = false
  driveLevel : (t.notice .driveService).level = true ↔
    ∃ d, (t.drive d).configured = true ∧ ((t.drive d).draining = true ∨ (t.drive d).state = .service)
  recordsLevel : (t.notice .recordsHigh).level =
    decide (s.policy.highWater * 16 ≤ s.accounting.records.length)
  queue : t.pending = s.pending

/-- The frames a warm reset sends first: LIBRARY_RESET to each link and CLEAR_ALL to each console
(R179). -/
def resetFrames (cause : ResetCause) (mode : Mode) : List Sent :=
  [.link 0 (.libraryReset cause mode), .link 1 (.libraryReset cause mode),
    .link 2 (.libraryReset cause mode), .link 3 (.libraryReset cause mode),
    .console 0 .clearAll, .console 1 .clearAll]

/-! ### Invariants -/

/-- Some request link has its management-permitted flag set (R184), and no intake queue holds more than
8 frames (R183). -/
abbrev intakeInvariant (s : State) : Prop :=
  (∃ l : Link, (s.intake.get l).permitted = true) ∧
    ∀ l : Link, (s.intake.get l).queue.length ≤ 8

/-- The record queue holds at most 256 records (R156), the error ring at most 16 entries (R195), and the
second of day is at most 86399 (R133). -/
abbrev storesInvariant (s : State) : Prop :=
  s.accounting.records.length ≤ 256 ∧ s.errors.ring.length ≤ 16 ∧ s.clock.second ≤ 86399

/-- Two volume entries keep the law of the map: no serial, home cell or holder in common (R2). -/
abbrev apart (u v : Volume) : Prop :=
  u.serial ≠ v.serial ∧ (u.home ≠ .shelf → u.home ≠ v.home) ∧
    (u.location.isHolder = true → u.location ≠ v.location)

/-- The volume entries stand under indices 0 to 4095, none twice (R1), and every two of them keep the law
of the map (R2). -/
abbrev mapInvariant (s : State) : Prop :=
  Table.wf 4096 s.map.volumes = true ∧ s.map.volumes.Pairwise fun a b => apart a.2 b.2

end Sys2Proof
end

