-- ==== Sys2Proof/Certificates/Slice0/Obligations.lean ====
section
/-!
DEFINITION. The statements put to the provers, in the order of OBLIGATIONS.json. Each docstring names the
rules of spec/ that its statement rests on, and the assumption-log entry where a clause is the model's
own.
-/

open Sys2Proof Sys2Proof.Machine

/-! ### The machine's own laws -/

/-- The command at the front of the queue is taken with the queue's rest (assumption log 1). -/
def Obligations.StepTakesTheFrontCommand : Prop :=
  ∀ (c : Instr) (rest : List Instr) (s : State),
    step { s with pending := c :: rest } = exec c { s with pending := rest }

/-- With no command waiting, the part idles when its intake queues are empty, and otherwise takes the frame
at the front of one of them: of the only one that holds any, or of either of several (R183; assumption log
1 and 4). -/
def Obligations.StepServesTheIntake : Prop :=
  ∀ s : State, s.pending = [] →
    ((∀ l, (s.intake.get l).queue = []) → step s = .next s) ∧
    (∀ l f rest c, (s.intake.get l).queue = f :: rest →
      (∀ k, k ≠ l → (s.intake.get k).queue = []) → frameCommand l f = some c →
      step s = exec c
        { s with intake := s.intake.update l fun i => { i with queue := rest } }) ∧
    ((∃ l, (s.intake.get l).queue ≠ []) →
      (∀ l f rest, (s.intake.get l).queue = f :: rest → (frameCommand l f).isSome = true) →
      ∃ l f rest c n, (s.intake.get l).queue = f :: rest ∧ frameCommand l f = some c ∧
        step s = exec c
          { s with
            intake := s.intake.update l fun i => { i with queue := rest }
            choices := n })

/-- Every command goes on in a next state: each is acted on, answered or dropped, whatever the state
(R73, R124, R129, R185). -/
def Obligations.EveryCommandGoesOn : Prop :=
  ∀ (c : Instr) (s : State), ∃ t, exec c s = .next t

/-- No command changes the queue of commands or the count of free choices, and the frames already sent
stand, but for POWER_ON, which begins anew (assumption log 1, 4 and 5). -/
def Obligations.QueueAndSentFramesStand : Prop :=
  ∀ (c : Instr) (s t : State), exec c s = .next t →
    t.pending = s.pending ∧ t.choices = s.choices ∧
      ((∀ door, c ≠ .powerOn door) → ∃ fs, t.sent = s.sent ++ fs)

/-- Every step keeps some request link permitted (R184, R191) and every intake queue at 8 frames or fewer
(R183). -/
def Obligations.IntakeLawKept : Prop :=
  ∀ s t : State, step s = .next t → intakeInvariant s → intakeInvariant t

/-- Every step keeps the record queue at 256 records or fewer (R156), the error ring at 16 entries or fewer
(R195, R196) and the second of day at 86399 or below (R133). -/
def Obligations.StoresLawKept : Prop :=
  ∀ s t : State, step s = .next t → storesInvariant s → storesInvariant t

/-- Every step keeps the law of the map: no two volume entries share a serial, a home cell or a holder
(R2), and entries stand under indices 0 to 4095 (R1). -/
def Obligations.MapLawKept : Prop :=
  ∀ s t : State, step s = .next t → mapInvariant s → mapInvariant t

/-- The three invariants hold at power-on. -/
def Obligations.LawsAtReset : Prop :=
  intakeInvariant State.reset ∧ storesInvariant State.reset ∧ mapInvariant State.reset

/-- A management frame taken from a link without management permission is answered NOT_PERMITTED and changes
nothing, and so is a CANCEL by job number (R63, R184). -/
def Obligations.NotPermitted : Prop :=
  ∀ (s : State) (l : Link), ¬permits s l →
    (∀ (c : Instr) (tag : Nat) (k : FrameKind), c.management = some (l, tag, k) →
      exec c s = .next (afterSending [response l tag k .notPermitted] s)) ∧
    ∀ tag n : Nat, exec (.cancel l tag (.byNumber n)) s =
      .next (afterSending [response l tag .cancel .notPermitted] s)

/-! ### Frames that read -/

/-- READ_CLOCK, READ_ERRORS, READ_STATUS and READ_ACCOUNT answer with what stands and change nothing; READ_VOLUME
and QUERY_VOLUME answer with the valid entry of the serial, or the valid entry at the lowest index at or above
the one named, and change nothing (R14, R137, R153, R187, R189, R197). The map keeps its law (MapLawKept). That
an index above 4095 is answered END is assumption log 68, and that of several jobs naming the volume the
lowest-numbered is the one reported is assumption log 47, both the model's choice. -/
def Obligations.ReadsChangeNothing : Prop :=
  ∀ (s : State) (l : Link) (tag : Nat),
    (permits s l →
      exec (.readClock l tag) s =
        .next (afterSending [response l tag .readClock (.clock
          { state := s.clock.state, day := s.clock.day, second := s.clock.second, tick := s.clock.tick
            compensation := s.clock.compensation, closeMode := s.clock.closeMode
            shiftTimes := s.clock.shiftTimes })] s) ∧
      exec (.readErrors l tag) s =
        .next (afterSending [response l tag .readErrors (.errors
          { first := s.errors.first, next := s.errors.next, counter := s.errors.counter
            count := s.errors.ring.length, entries := s.errors.ring })] s) ∧
      exec (.readStatus l tag) s =
        .next (afterSending [response l tag .readStatus (.status
          { mode := s.control.mode, quiesceForced := s.control.quiesceForced, door := s.control.door
            causes := s.causes, clock := s.clock.state
            pendingTariff := s.accounting.pendingTariff.isSome, period := s.accounting.period
            armA := s.arms.armA.state, armB := s.arms.armB.state, jobs := s.work.jobs.length
            prompts := s.desk.prompts.length, owedPrompts := s.desk.owed.length
            records := s.accounting.records.length
            recordsHigh := decide (s.policy.highWater * 16 ≤ s.accounting.records.length)
            drives := s.drives.items.map fun e => (e.state, e.configured, e.draining) })] s) ∧
      (∀ a : AccountId, exec (.readAccount l tag a.val) s =
        .next (afterSending [response l tag .readAccount (.account
          { code := (s.accounting.accounts.get a).code
            allowance := (s.accounting.accounts.get a).allowance
            live := (s.accounting.accounts.get a).live
            slotFull := (s.accounting.accounts.get a).closed.isSome
            period := s.accounting.period })] s)) ∧
      ∀ i, 63 < i → exec (.readAccount l tag i) s =
        .next (afterSending [response l tag .readAccount .badRequest] s)) ∧
    (mapInvariant s →
      (∀ v e, s.volume? v = some e →
        (permits s l → exec (.readVolume l tag (.bySerial e.serial)) s =
          .next (afterSending [response l tag .readVolume
            (.volume { index := v, volume := e, job := s.jobNaming v })] s)) ∧
        (serialGood e.serial = true → exec (.queryVolume l tag e.serial) s =
          .next (afterSending [response l tag .queryVolume
            (.volume { index := v, volume := e, job := s.jobNaming v })] s)) ∧
        ∀ start, start ≤ v → (∀ u, start ≤ u → u < v → s.volume? u = none) → permits s l →
          exec (.readVolume l tag (.byIndex start)) s =
            .next (afterSending [response l tag .readVolume
              (.volume { index := v, volume := e, job := s.jobNaming v })] s)) ∧
      (∀ serial, (∀ v e, s.volume? v = some e → e.serial ≠ serial) →
        (permits s l → exec (.readVolume l tag (.bySerial serial)) s =
          .next (afterSending [response l tag .readVolume .noSuchVolume] s)) ∧
        exec (.queryVolume l tag serial) s =
          .next (afterSending [response l tag .queryVolume
            (if serialGood serial = true then .noSuchVolume else .badRequest)] s)) ∧
      ∀ start, (∀ v, start ≤ v → s.volume? v = none) → permits s l →
        exec (.readVolume l tag (.byIndex start)) s =
          .next (afterSending [response l tag .readVolume .endOfMap] s))

/-! ### Power-on, reset, the door, START and QUIESCE -/

/-- POWER_ON gives every block its power-on values, with the door as its line shows (R18, R22, R67, R68,
R108, R132, R133, R143, R168, R169, R194, R195). Nothing has been sent, and the queue of commands is
kept (assumption log 1 and 5). -/
def Obligations.PowerOn : Prop :=
  ∀ (door : DoorState) (s : State), ∃ t, exec (.powerOn door) s = .next t ∧
    t.control = { mode := .configure, quiesceForced := false, door := door } ∧
    t.causes = { power := true, line := false, frame := false } ∧
    (∀ l, t.intake.get l = { queue := [], train := none, permitted := decide (l = 0) }) ∧
    t.map.volumes = [] ∧ t.map.columns = [] ∧ (∀ d, t.map.drivePositions.get d = none) ∧
    (∀ b, t.map.ringPositions.get b = none) ∧ (∀ b, t.map.hatchPositions.get b = none) ∧
    t.map.separation = 24 ∧ (∀ d, t.drive d = Drive.powerOn) ∧ t.work.jobs = [] ∧
    t.work.nextSequence = 0 ∧ (∀ d, t.work.owed.get d = none) ∧
    (∀ x, t.arm x = Arm.powerOn (railEnd x)) ∧ t.arms.tagCounter = 0 ∧
    (∀ b, t.station.ring.get b = .free) ∧ (∀ b, t.station.hatch.get b = .free) ∧
    t.desk.prompts = [] ∧ t.desk.owed = [] ∧ t.desk.nextNumber = 1 ∧
    (∀ c, t.console c = { area := [], deferred := [] }) ∧
    (∀ k, t.desk.routing.get k = { console0 := true, console1 := true }) ∧
    t.clock = { state := .notSet, day := 0, second := 0, tick := 0, compensation := 0, ticksToDrop := 0
                closeMode := .manual, shiftTimes := [] } ∧
    t.accounting.active.starts = [0] ∧ (∀ k b, (t.accounting.active.rates.get k).get b = 0) ∧
    (∀ k, t.accounting.active.fees.get k = 0) ∧ (∀ k, t.accounting.active.transfers.get k = 0) ∧
    t.accounting.active.grace = 0 ∧ t.accounting.pendingTariff = none ∧
    t.policy = { supervision := 4, loadTimeout := 3, aging := 5, reminder := 2, escalationCount := 3
                 decision := 3, information := 4, deferral := 4, approveDefault := .deny
                 highWater := 12 } ∧
    t.accounting.records = [] ∧
    t.accounting.recordSequence = 0 ∧ t.accounting.period = 0 ∧
    (∀ a, t.accounting.accounts.get a = Account.powerOn) ∧
    t.errors = { ring := [], first := none, next := [], counter := 0 } ∧
    (∀ c, t.notice c =
      { raiseEnable := false, clearEnable := false, pending := false, level := false }) ∧
    t.notices.link = 0 ∧ t.notices.clearOnRead = true ∧ t.sent = [] ∧ t.pending = s.pending

/-- RESET_LINE and RESET_WARM: the reset cause flag is set beside the others, every block takes the state its
own rule gives, each SERVICE drive and each hatch bay with a reel posts afresh, numbered on from the kept
counter, the levels of the conditions are set as they stand, and LIBRARY_RESET and CLEAR_ALL go out, after
RESET_WARM's ACCEPTED; no NOTICE but MODE_CHANGE follows them (R18, R40, R67, R94, R108, R132, R178, R179, R180,
R194, R202). CLEAR_RESET_CAUSE clears the three flags (R180). -/
def Obligations.WarmResets : Prop :=
  ∀ (s : State) (l : Link) (tag : Nat),
    let onlyModeChange := fun (t : State) (rest : List Sent) => ∀ m d, Sent.link m (.notice d) ∈ rest →
      m = s.notices.link ∧ d = .modeChange t.mode t.control.door
    (∃ t, exec .resetLine s = .next t ∧ WarmReset s t ∧ t.causes = { s.causes with line := true } ∧
      ∃ rest, t.sent = s.sent ++ resetFrames .line t.mode ++ rest ∧ onlyModeChange t rest) ∧
    (permits s l → ∃ t, exec (.resetWarm l tag) s = .next t ∧ WarmReset s t ∧
      t.causes = { s.causes with frame := true } ∧
      ∃ rest, t.sent =
        s.sent ++ response l tag .resetWarm .accepted :: resetFrames .frame t.mode ++ rest ∧
        onlyModeChange t rest) ∧
    (permits s l → ∃ t, exec (.clearResetCause l tag) s = .next t ∧
      t.causes = { power := false, line := false, frame := false } ∧ unchangedBut [.causes] s t ∧
      t.sent = s.sent ++ [response l tag .clearResetCause .accepted])

/-- DOOR_OPEN: the door is OPEN; in CONFIGURE and SAFE nothing else changes, and in any other mode SAFE is entered
over the governing mode, STOP is sent once and running supervision is suspended. DOOR_CLOSE in SAFE: the mode is
HOMING with the mode beneath as its target, each arm that is neither DISABLED nor PARKED is HOMING with no claim,
its HOME is sent when it has no order in flight, and an order still in flight runs on under its resumed
supervision; in CONFIGURE the door state alone changes (R92, R93, R170, R176, R177). -/
def Obligations.DoorMoved : Prop :=
  ∀ s : State,
    (∃ t, exec .doorOpen s = .next t ∧
      t.control = { s.control with
        door := .opened
        mode := match s.control.mode with
          | .configure => .configure
          | .homing g | .safe g => .safe g
          | .run => .safe .run
          | .quiescing => .safe .quiescing
          | .quiesced => .safe .quiesced } ∧
      ((s.control.mode = .configure ∨ s.control.mode.isSafe = true) →
        unchangedBut [.control] s t ∧ t.sent = s.sent) ∧
      (s.control.mode ≠ .configure → s.control.mode.isSafe = false →
        unchangedBut [.control, .arms, .notices] s t ∧ t.arms.tagCounter = s.arms.tagCounter ∧
        (∀ x, t.arm x = { s.arm x with supervision := (s.arm x).supervision.hold }) ∧
        ∃ ns, t.sent = s.sent ++ ns ++ [.robot .stop] ∧
          ∀ f ∈ ns, f = .link s.notices.link (.notice (.modeChange t.control.mode .opened)))) ∧
    (∀ g, s.control.mode = .safe g → (∃ x, (s.arm x).isHomed = true) →
      ∃ t, exec .doorClose s = .next t ∧
        t.control = { s.control with mode := .homing g, door := .closed } ∧
        unchangedBut [.control, .arms, .notices, .work, .station] s t ∧
        ∀ x,
          ((s.arm x).isHomed = true →
            (t.arm x).state = .homing ∧ (t.arm x).claim = none ∧
            ((s.arm x).inFlight = none → ∃ tag,
              (t.arm x).inFlight = some { tag := tag, order := .home } ∧
              sentAmong (.robot (.order x tag .home (some (railEnd x)))) s t) ∧
            ((s.arm x).inFlight ≠ none →
              (t.arm x).inFlight = (s.arm x).inFlight ∧
              (t.arm x).supervision = (s.arm x).supervision.resume)) ∧
          ((s.arm x).isHomed = false →
            (t.arm x).state = (s.arm x).state ∧ (t.arm x).claim = (s.arm x).claim)) ∧
    (s.control.mode = .configure →
      exec .doorClose s = .next { s with control := { s.control with door := .closed } })

/-- START under the governing mode RUN is answered WRONG_MODE; under another it is answered ACCEPTED exactly when
the configuration is complete, and otherwise START_REJECT with nothing changed. An accepted START makes RUN the
governing mode: HOMING with the target RUN from CONFIGURE with the door CLOSED and from QUIESCED while an arm can be
homed, SAFE over RUN from CONFIGURE with the door OPEN and from SAFE, RUN at once from QUIESCING, and a new target
in HOMING (R17, R171, R172, R173). -/
def Obligations.StartTaken : Prop :=
  ∀ (s : State) (l : Link) (tag : Nat), permits s l →
    (s.mode.governing = some .run →
      exec (.start l tag) s = .next (afterSending [response l tag .start .wrongMode] s)) ∧
    (s.mode.governing ≠ some .run → ¬readyToStart s → ∃ item,
      exec (.start l tag) s = .next (afterSending [response l tag .start (.startReject item)] s)) ∧
    (s.mode.governing ≠ some .run → readyToStart s → ∃ t, exec (.start l tag) s = .next t ∧
      sentFirst (response l tag .start .accepted) s t ∧
      unchangedBut aftermath s t ∧ t.control.door = s.control.door ∧
      (s.mode = .configure → s.control.door = .opened → t.mode = .safe .run) ∧
      ((s.mode = .configure ∧ s.control.door = .closed ∨ s.mode = .quiesced) →
        (∃ x, (s.arm x).isHomed = true) →
        t.mode = .homing .run ∧ ∀ x, (s.arm x).isHomed = true → (t.arm x).state = .homing) ∧
      (s.mode = .quiescing → t.mode = .run ∧ t.control.quiesceForced = false) ∧
      (s.mode.isSafe = true → t.mode = .safe .run) ∧
      (s.mode.isHoming = true → (∃ x, (s.arm x).isSettled = false) → t.mode = .homing .run))

/-- QUIESCE is answered ACCEPTED outside CONFIGURE. RUN becomes QUIESCING, and QUIESCED when no order is in
flight and no job is on the list; SAFE and HOMING take QUIESCING beneath or as the target; a QUIESCE under
QUIESCING sets quiesce forced; under QUIESCED nothing changes; in CONFIGURE it is answered WRONG_MODE
(R174, R175). -/
def Obligations.QuiesceAccepted : Prop :=
  ∀ (s : State) (l : Link) (tag : Nat), permits s l →
    (s.mode = .configure →
      exec (.quiesce l tag) s = .next (afterSending [response l tag .quiesce .wrongMode] s)) ∧
    (s.mode ≠ .configure → ∃ t, exec (.quiesce l tag) s = .next t ∧
      sentFirst (response l tag .quiesce .accepted) s t ∧ unchangedBut aftermath s t ∧
      t.control.door = s.control.door ∧
      (s.mode = .run → (∃ x, (s.arm x).inFlight ≠ none) →
        t.mode = .quiescing ∧ t.control.quiesceForced = false) ∧
      (s.mode = .run → s.work.jobs = [] →
        (∀ x, (s.arm x).inFlight = none ∧ (s.arm x).nextOrder = none) → t.mode = .quiesced) ∧
      (s.mode = .safe .run → t.mode = .safe .quiescing ∧ t.control.quiesceForced = false) ∧
      (s.mode = .safe .quiescing → t.mode = s.mode ∧ t.control.quiesceForced = true) ∧
      (s.mode = .homing .run → (∃ x, (s.arm x).isSettled = false) → t.mode = .homing .quiescing) ∧
      (s.mode = .quiescing → (∃ x, (s.arm x).inFlight ≠ none) →
        t.mode = .quiescing ∧ t.control.quiesceForced = true) ∧
      (s.mode = .quiesced → t = afterSending [response l tag .quiesce .accepted] s))

/-! ### Requests for work -/

/-- A MOUNT that passes every check is answered ACCEPTED with the lowest free job number, before anything
else is sent; its drive is RESERVED for the job, which holds what the frame asked for (R41, R45, R46). -/
def Obligations.MountAdmitted : Prop :=
  ∀ (s : State) (l : Link) (tag : Nat) (r : MountRequest) (d : DriveId) (n : Nat),
    mountAdmits s l tag r d n →
    ∃ t j, exec (.mount l tag r) s = .next t ∧
      sentFirst (response l tag .mount (.acceptedJob n)) s t ∧
      (t.drive d).state = .reserved ∧ (t.drive d).job = some n ∧ t.job? n = some j ∧
      j.kind = .mount ∧ j.sequence = s.work.nextSequence ∧
      j.origin = some { link := l, tag := tag } ∧ j.drive = some d ∧
      j.intent = (if r.flags.getLsbD 1 then .write else .read) ∧
      j.account = s.accountOf r.account ∧ j.priority = r.priority ∧ j.effective = r.priority ∧
      j.cancelled = false ∧ j.returning = false ∧
      (∀ v, s.mountVolume r = some v → j.volume = some v) ∧
      unchangedBut (aftermath ++ [.accounting]) s t

/-- The hold evaluation of an admitted MOUNT of a volume in the map, while no arm is idle: by hand for a
volume on the SHELF, HELD SUSPECT, UNCERTAIN or WAIT_VOLUME with its prompt, HELD ALLOWANCE past the
account's allowance, and otherwise WAITING with the mount counted (R47, R56, R161). -/
def Obligations.MountHeldOrWaiting : Prop :=
  ∀ (s : State) (l : Link) (tag : Nat) (r : MountRequest) (d : DriveId) (n v : Nat) (e : Volume),
    mountAdmits s l tag r d n → s.mountVolume r = some v → s.volume? v = some e → noIdleArm s →
    s.desk.prompts.length < 32 →
    ∃ t j, exec (.mount l tag r) s = .next t ∧ t.job? n = some j ∧
      j.mountKind = (if e.location = .shelf then .manual else .robot) ∧
      (let asked := fun k : PromptKind => ∃ p ∈ t.desk.prompts,
        p.kind = k ∧ p.owner = .job { number := n, sequence := s.work.nextSequence }
      let free := e.location = .shelf ∨ e.suspect = false ∧ e.location = .cell ∧
        ∀ k ∈ s.work.jobs, k.2.volume ≠ some v
      let a := s.accountOf r.account
      (e.location ≠ .shelf → e.suspect = true → j.state = .held .suspect ∧ asked .checkReel) ∧
      (e.suspect = false → e.location = .uncertain →
        j.state = .held .uncertain ∧ asked .verifyVolume) ∧
      (e.suspect = false → e.location ≠ .shelf → e.location ≠ .uncertain → e.location ≠ .cell →
        j.state = .held .waitVolume) ∧
      (e.suspect = false → e.location = .cell → (∃ k ∈ s.work.jobs, k.2.volume = some v) →
        j.state = .held .waitVolume) ∧
      (free → withinAllowance s a → j.counted = .allowance ∧
        (t.accounting.accounts.get a).live.mountsUsed =
          min 65535 ((s.accounting.accounts.get a).live.mountsUsed + 1) ∧
        (e.location = .cell → j.state = .waiting) ∧
        (e.location = .shelf → j.state = .manual ∧ asked .mountByHand)) ∧
      (free → ¬withinAllowance s a → j.counted = .none ∧ j.state = .held .allowance ∧
        asked .approveMount ∧ t.accounting = s.accounting))

/-- The first check of R45 that fails gives a MOUNT its refusal, and nothing changes (R45). -/
def Obligations.MountRefused : Prop :=
  ∀ (s : State) (l : Link) (tag : Nat) (r : MountRequest),
    let refused := fun code : Result =>
      exec (.mount l tag r) s = .next (afterSending [response l tag .mount code] s)
    (s.mode.governing ≠ some .run → refused .wrongMode) ∧
    (s.mode.governing = some .run → s.mountWellFormed l tag r = false → refused .badRequest) ∧
    ∀ d : DriveId, s.mode.governing = some .run → s.mountWellFormed l tag r = true → r.drive = d.val →
      ((s.drive d).configured = false → refused .badDrive) ∧
      ((s.drive d).configured = true →
        ((s.drive d).draining = true ∨ (s.drive d).state ∈ [.service, .cleanDue, .cleaning]) →
        refused .driveUnavailable) ∧
      ((s.drive d).configured = true → (s.drive d).draining = false →
        (s.drive d).state ∉ [.service, .cleanDue, .cleaning] →
        ((s.drive d).state ≠ .empty ∨ (s.drive d).job ≠ none) → refused .driveBusy) ∧
      ((s.drive d).configured = true → (s.drive d).draining = false → (s.drive d).state = .empty →
        (s.drive d).job = none →
        (s.freeJob = none → refused .listFull) ∧
        ∀ n v, s.freeJob = some n → s.mountVolume r = some v → s.mountable v = false →
          refused .volumeInUse)

/-- A DEMOUNT of an OCCUPIED drive with no job is admitted: ACCEPTED with the job number first, the job in
UNLOAD_WAIT under this origin with the volume and account of the drive. One whose drive names a DEMOUNT without
an origin adopts that job, whose priority it may raise. With the unload option either puts REWIND_UNLOAD down
the string and makes the drive UNLOADING (R30, R48). -/
def Obligations.DemountAdmitted : Prop :=
  ∀ (s : State) (l : Link) (tag priority : Nat) (unload : Bool) (d : DriveId) (n : Nat),
    s.mode ≠ .configure → priority ≤ 3 → s.jobByTag l tag = none → (s.drive d).configured = true →
    (s.drive d).state = .occupied →
    (∀ k, (s.drive d).job = some n → s.job? n = some k → k.kind = .demount → k.origin = none →
      ∃ t, exec (.demount l tag d.val unload priority) s = .next t ∧
        sentFirst (response l tag .demount (.acceptedJob n)) s t ∧
        (noIdleArm s → t.job? n = some { k with
          origin := some { link := l, tag := tag }, priority := max k.priority priority
          effective := max k.effective priority }) ∧
        (t.drive d).occupancy = (s.drive d).occupancy ∧
        (t.drive d).state = (if unload then .unloading else .occupied) ∧
        (unload = true → sentAmong (.string (.rewindUnload d)) s t) ∧ unchangedBut aftermath s t) ∧
    ((s.drive d).job = none → s.freeJob = some n →
    ∃ t j, exec (.demount l tag d.val unload priority) s = .next t ∧
      sentFirst (response l tag .demount (.acceptedJob n)) s t ∧ t.job? n = some j ∧
      j.kind = .demount ∧ j.state = .unloadWait ∧ j.sequence = s.work.nextSequence ∧
      j.origin = some { link := l, tag := tag } ∧ j.drive = some d ∧
      j.volume = s.locatedAt (.drive d) ∧ j.priority = priority ∧ j.counted = .none ∧
      (∀ o, (s.drive d).occupancy = some o → j.account = o.account) ∧
      (t.drive d).job = some n ∧ (t.drive d).occupancy = (s.drive d).occupancy ∧
      (t.drive d).state = (if unload then .unloading else .occupied) ∧
      (unload = true → sentAmong (.string (.rewindUnload d)) s t) ∧ unchangedBut aftermath s t)

/-- A CANCEL by tag of a WAITING MOUNT that no arm holds ends it at once: ACCEPTED with the job's number first,
CANCELLED to the origin, and its RESERVED drive, neither draining nor due a cleaning, EMPTY with no job (R25,
R37, R44, R63, R64, R66, R186). -/
def Obligations.CancelledWhileWaiting : Prop :=
  ∀ (s : State) (l : Link) (tag t₀ n : Nat) (j : Job) (d : DriveId),
    s.jobByTag l t₀ = some n → s.job? n = some j → j.kind = .mount → j.state = .waiting →
    j.origin = some { link := l, tag := t₀ } → j.cancelled = false → j.returning = false →
    j.arm = none → j.ringBay = none → j.drive = some d →
    (s.drive d).state = .reserved → (s.drive d).job = some n → (s.drive d).draining = false →
    notDue (s.drive d) →
    ∃ t, exec (.cancel l tag (.byTag t₀)) s = .next t ∧
      sentFirst (response l tag .cancel (.acceptedJob n)) s t ∧
      sentAmong (.link l (.lifecycle t₀ .cancelled n (some d) j.serial)) s t ∧
      (t.drive d).state = .empty ∧ (t.drive d).job = none ∧
      unchangedBut (aftermath ++ [.accounting]) s t

/-- An admitted EJECT is answered ACCEPTED with its job number and waits for an arm, or already has one, with
its FETCH and HATCH_PUT before it. An admitted ENTER is answered ACCEPTED with its job number; it reserves the
lowest-numbered free hatch bay, is MANUAL and posts PLACE_IN_HATCH, or is HELD HATCH_FULL when no bay is free
(R51, R52, R96, R105). -/
def Obligations.MovesAdmitted : Prop :=
  ∀ (s : State) (l : Link) (tag priority n v : Nat) (e : Volume),
    permits s l → s.mode ≠ .configure → mapInvariant s → s.volume? v = some e →
    serialGood e.serial = true → priority ≤ 3 → s.jobByTag l tag = none → s.jobNaming v = none →
    s.freeJob = some n →
    (∀ c, e.home = .cell c → e.location = .cell →
      ∃ t j, exec (.eject l tag e.serial priority) s = .next t ∧
        sentFirst (response l tag .eject (.acceptedJob n)) s t ∧ t.job? n = some j ∧
        j.kind = .eject ∧ (j.state = .waiting ∨ j.state = .assigned) ∧
        j.sequence = s.work.nextSequence ∧ j.origin = some { link := l, tag := tag } ∧
        j.volume = some v ∧ j.serial = some e.serial ∧ j.priority = priority ∧ j.account = 0 ∧
        (∃ b, j.legs = [.fetch c, .hatchPut b]) ∧ unchangedBut aftermath s t) ∧
    (e.home ≠ .shelf → e.location = .shelf → s.desk.prompts.length < 32 →
      ∃ t j, exec (.enter l tag e.serial priority) s = .next t ∧
        sentFirst (response l tag .enter (.acceptedJob n)) s t ∧ t.job? n = some j ∧
        j.kind = .enter ∧ j.origin = some { link := l, tag := tag } ∧ j.volume = some v ∧
        j.priority = priority ∧ unchangedBut aftermath s t ∧
        (s.freeHatches = [] → j.state = .held .hatchFull) ∧
        ∀ b rest, s.freeHatches = b :: rest →
          j.state = .manual ∧ j.hatchBay = some b ∧
          t.station.hatch.get b =
            .reserved { number := n, sequence := s.work.nextSequence } ∧
          ∃ p ∈ t.desk.prompts, p.kind = .placeInHatch ∧
            p.owner = .job { number := n, sequence := s.work.nextSequence } ∧
            p.params.bay = some (.hatch b) ∧ p.params.serial = some e.serial)

/-- A CANCEL that names no job is answered NO_SUCH_JOB, and by number on a link without permission NOT_PERMITTED.
For a job already cancelled it is ACCEPTED and changes nothing. In the positions of R64's list, a job turned home
without a CANCEL, HELD WRONG_REEL or HELD HATCH_FULL after a STOW fault, a DEMOUNT that is ASSIGNED or past its
PULL, a CLEAN in CLEAN_WAIT or later and an ENTER placed in the hatch, it is TOO_LATE and changes nothing. Of a
MOUNT, EJECT or CLEAN with its reel in an arm's hand, whose put is in flight or which is HELD for want of a bay, it
is ACCEPTED: the job keeps its origin, is ASSIGNED and turned home by one STOW, and an order in flight goes on
(R63, R64). That a CLEAN HELD HATCH_FULL after the put of its spent cleaner is in no position of the list is
assumption log 48, the model's choice. -/
def Obligations.CancelJudged : Prop :=
  ∀ (s : State) (l : Link) (tag : Nat),
    let answers := fun (c : CancelTarget) (r : Result) =>
      exec (.cancel l tag c) s = .next (afterSending [response l tag .cancel r] s)
    (∀ t, s.jobByTag l t = none → answers (.byTag t) .noSuchJob) ∧
    (∀ n, permits s l → s.job? n = none → answers (.byNumber n) .noSuchJob) ∧
    (∀ n, ¬permits s l → answers (.byNumber n) .notPermitted) ∧
    ∀ (c : CancelTarget) (n : Nat) (j : Job), cancels s l n c → s.job? n = some j →
      (j.cancelled = true → answers c (.acceptedJob n)) ∧
      (j.cancelled = false → tooLate j → answers c .tooLate) ∧
      ∀ (x : ArmId) (v : Nat) (k : Cell), worksFor s x n j → j.cancelled = false → ¬tooLate j →
        (j.kind = .mount ∨ j.kind = .eject ∨ j.kind = .clean) → j.volume = some v →
        s.homeCell v = some k → (s.arm x).hand = .loaded (some v) →
        (∀ o, j.currentOrder = some o → o.isTake = false) →
        (j.state = .assigned ∧ (s.arm x).inFlight ≠ none ∨ j.state = .held .ringFull ∨
          j.state = .held .hatchFull) →
        ∃ t j', exec (.cancel l tag c) s = .next t ∧
          sentFirst (response l tag .cancel (.acceptedJob n)) s t ∧ t.job? n = some j' ∧
          j'.state = .assigned ∧ j'.arm = some x ∧ j'.cancelled = true ∧ j'.returning = true ∧
          j'.legs = [.stow k] ∧ j'.leg = 0 ∧ j'.origin = j.origin ∧
          (t.arm x).hand = .loaded (some v) ∧
          (j.state = .assigned → (t.arm x).inFlight = (s.arm x).inFlight) ∧ unchangedBut aftermath s t

/-! ### The assignment pass -/

/-- A rise of a WAITING job's effective priority is followed by an assignment pass. In RUN a WAITING MOUNT of a
reel in its cell that needs no ring fit, with every job before it in assignment order passed over, is given to the
IDLE arm that can serve it, or of two the nearer to its cell, arm A on a tie. The arm claims the span of its
position, the cell and the drive and is sent the FETCH; where that span comes too close to the other arm's claim,
the other arm, IDLE and empty, is sent a YIELD clear of it while the chosen arm keeps its claim and its FETCH.
When no arm can serve it the job stays WAITING as it was, and so does every MOUNT in QUIESCING (R59, R60, R76,
R77, R78, R79). -/
def Obligations.AssignmentPass : Prop :=
  ∀ (s : State) (m n : Nat) (k : Job), s.job? m = some k → k.state = .waiting →
    k.aging.isRunning = true → k.effective < 3 →
    let u := s.updateJob m fun i => { i with
      effective := i.effective + 1, aging := .running (64 * (2 ^ s.policy.aging * 15)) }
    ∃ t, exec (.agingExpiry m) s = .next t ∧ unchangedBut aftermath s t ∧
      ∀ j, u.job? n = some j → j.state = .waiting → j.kind = .mount →
        (s.mode = .quiescing → t.job? n = some j) ∧
        ∀ (v : Nat) (e : Volume) (c : Cell) (d : DriveId) (p q : Nat), s.mode = .run →
          j.volume = some v → s.volume? v = some e → e.home = .cell c →
          (j.intent = .read ∨ e.ring = .ringIn) → j.drive = some d → j.legs[j.leg]? = some (.fetch c) →
          s.cellPosition c = some p → s.map.drivePositions.get d = some q →
          (∀ x, (s.arm x).claim ≠ none ∧ (s.isIdle x = true → (s.arm x).inFlight = none)) →
          (∀ i ∈ u.work.jobs, i.2.state = .waiting → i.1 = n ∨ goesBefore j i.2 ∨ passedOver u i.2) →
          let need := fun x : ArmId =>
            Span.mk (min (s.arm x).place (min p q)) (max (s.arm x).place (max p q))
          let clear := fun x : ArmId => ∀ r, (s.arm (otherArm x)).claim = some r → match x with
            | .a => (need .a).high + s.map.separation ≤ r.low
            | .b => r.high + s.map.separation ≤ (need .b).low
          let yields := fun x : ArmId => s.isIdle (otherArm x) = true ∧ match x with
            | .a => (need .a).high + s.map.separation ≤ 1023
            | .b => s.map.separation ≤ (need .b).low
          let serves := fun x : ArmId => s.isIdle x = true ∧ (clear x ∨ yields x)
          let off := fun x : ArmId => max (s.arm x).place p - min (s.arm x).place p
          ((∀ x, ¬serves x) → t.job? n = some j) ∧
          ∀ x, serves x →
            (serves (otherArm x) → off x < off (otherArm x) ∨ off x = off (otherArm x) ∧ x = .a) →
            t.job? n = some { j with
              state := .assigned, arm := some x, legs := [.fetch c, .load d], leg := 0
              mountKind := .robot, aging := .stopped } ∧
            (t.arm x).state = .moving ∧ (t.arm x).job = some (j.ref n) ∧
            (clear x → (t.arm x).claim = some (need x) ∧ ∃ tag,
              (t.arm x).inFlight = some { tag := tag, order := .fetch c } ∧
              sentAmong (.robot (.order x tag (.fetch c) (some p))) s t) ∧
            (¬clear x →
              let y := otherArm x
              let away := match x with
                | .a => (need .a).high + s.map.separation
                | .b => (need .b).low - s.map.separation
              (t.arm x).claim = (s.arm x).claim ∧ (t.arm x).inFlight = none ∧
              (t.arm x).nextOrder = some (.fetch c) ∧ (t.arm y).state = .moving ∧
              (t.arm y).claim = some (Span.mk (min (s.arm y).place away) (max (s.arm y).place away)) ∧
              ∃ tag, (t.arm y).inFlight = some { tag := tag, order := .yieldTo away } ∧
                sentAmong (.robot (.order y tag (.yieldTo away) (some away))) s t)

/-! ### The tables -/

/-- One well-formed ADD_VOLUMES item fills the lowest-indexed invalid entry, with the defaults of R11, and
is answered with that index; a second item of the frame with the same serial is refused SERIAL_PRESENT, and
an ill-formed item BAD_FIELD (R1, R11). -/
def Obligations.VolumeAdded : Prop :=
  ∀ (s : State) (l : Link) (tag v : Nat) (i : AddItem), permits s l →
    (serialGood i.serial = true → homeGood i.home = true → s.findSerial i.serial = none →
      s.homeTaken i.home = none → s.columnUnset i.home = false →
      s.map.volumes.firstFree 4096 = some v →
      let e : Volume :=
        { serial := i.serial, home := i.home, pool := i.pool, ring := i.ring
          location := if i.home = .shelf then .shelf else .cell
          suspect := false, owner := s.accountOf i.owner
          usesLeft := if i.pool = .cleanPool then i.usesLeft else 0
          mountCount := 0, lastMountDay := none }
      (∃ t, exec (.addVolumes l tag [i]) s = .next t ∧
        sentFirst (response l tag .addVolumes (.acceptedItems [.index v])) s t ∧
        t.volume? v = some e ∧ (∀ u, u ≠ v → t.volume? u = s.volume? u) ∧
        t.map = { s.map with volumes := t.map.volumes } ∧ unchangedBut (aftermath ++ [.map]) s t) ∧
      ∀ i' : AddItem, i'.serial = i.serial → homeGood i'.home = true →
        ∃ t, exec (.addVolumes l tag [i, i']) s = .next t ∧
          sentFirst (response l tag .addVolumes
            (.tableReject [.index v, .refused 2 .serialPresent])) s t ∧
          t.volume? v = some e ∧ ∀ u, u ≠ v → t.volume? u = s.volume? u) ∧
    (serialGood i.serial = false ∨ homeGood i.home = false →
      ∃ t, exec (.addVolumes l tag [i]) s = .next t ∧
        sentFirst (response l tag .addVolumes (.tableReject [.refused 1 .badField])) s t ∧
        t.map = s.map)

/-- DELETE_VOLUME makes the entry invalid when no job names it and no holder has it; otherwise it is refused
with the job or the holder, and a serial that is not in the map is refused. An accepted SET_HOME gives the
volume its new home, and a volume located CELL whose home becomes SHELF is located SHELF; a cell that is another
volume's home is refused HOME_IN_USE (R12, R13). That of several jobs naming the volume the lowest-numbered is the
one reported is assumption log 47, the model's choice. -/
def Obligations.VolumeDeletedOrRehomed : Prop :=
  ∀ (s : State) (l : Link) (tag : Nat), permits s l → mapInvariant s →
    (∀ v e, s.volume? v = some e →
      (s.jobNaming v = none → e.location.isHolder = false →
        ∃ t, exec (.deleteVolume l tag e.serial) s = .next t ∧ t.volume? v = none ∧
          (∀ u, u ≠ v → t.volume? u = s.volume? u) ∧
          t.map = { s.map with volumes := t.map.volumes } ∧ unchangedBut [.map] s t ∧
          t.sent = s.sent ++ [response l tag .deleteVolume .accepted]) ∧
      (∀ n, s.jobNaming v = some n → exec (.deleteVolume l tag e.serial) s =
        .next (afterSending [response l tag .deleteVolume (.volumeInUseByJob n)] s)) ∧
      (s.jobNaming v = none → e.location.isHolder = true → exec (.deleteVolume l tag e.serial) s =
        .next (afterSending [response l tag .deleteVolume (.volumeInUseAt e.location)] s))) ∧
    (∀ serial, (∀ v e, s.volume? v = some e → e.serial ≠ serial) →
      exec (.deleteVolume l tag serial) s =
        .next (afterSending [response l tag .deleteVolume .noSuchVolume] s)) ∧
    ∀ (v : Nat) (e : Volume) (home : Home), s.volume? v = some e → s.jobNaming v = none →
      e.location.isHolder = false → homeGood home = true →
      ((home = .shelf ∨ (∀ u f, s.volume? u = some f → f.home ≠ home) ∧ s.columnUnset home = false) →
        ∃ t, exec (.setHome l tag e.serial home) s = .next t ∧
          sentFirst (response l tag .setHome .accepted) s t ∧
          t.volume? v = some { e with
            home := home
            location := if e.location = .cell ∧ home = .shelf then .shelf else e.location } ∧
          (∀ u, u ≠ v → t.volume? u = s.volume? u) ∧
          t.map = { s.map with volumes := t.map.volumes } ∧ unchangedBut (aftermath ++ [.map]) s t) ∧
      ∀ u f, s.volume? u = some f → u ≠ v → f.home = home → home ≠ .shelf →
        exec (.setHome l tag e.serial home) s =
          .next (afterSending [response l tag .setHome (.tableRejectReason .homeInUse)] s)

/-- A LOAD_GEOMETRY item taken in CONFIGURE, QUIESCED or SAFE over QUIESCED sets the position it names and
nothing else, or the separation clamped to 8 to 64; a position above 1023 is refused OUT_OF_RAIL, a rack, column,
drive or bay out of range BAD_FIELD, a separation that brings the claims too close ARMS_TOO_CLOSE, and any other
mode WRONG_MODE (R15, R16). -/
def Obligations.GeometryLoaded : Prop :=
  ∀ (s : State) (l : Link) (tag : Nat), permits s l →
    (s.mode.takesLoads = true →
      (∀ (i : GeometryItem) (m : VolumeMap),
        (match i with
          | .column r c p => r ≤ 15 ∧ c ≤ 15 ∧ p ≤ 1023 ∧
              m = { s.map with columns := m.columns } ∧
              ∀ k, m.columns.get? k = if k = r * 16 + c then some p else s.map.columns.get? k
          | .drive d p => p ≤ 1023 ∧ ∃ h : d < 16,
              m = { s.map with drivePositions := s.map.drivePositions.set ⟨d, h⟩ (some p) }
          | .ringBay b p => p ≤ 1023 ∧ ∃ h : b < 2,
              m = { s.map with ringPositions := s.map.ringPositions.set ⟨b, h⟩ (some p) }
          | .hatchBay b p => p ≤ 1023 ∧ ∃ h : b < 4,
              m = { s.map with hatchPositions := s.map.hatchPositions.set ⟨b, h⟩ (some p) }
          | .separation n => s.armsTooClose (max 8 (min 64 n)) = false ∧
              m = { s.map with separation := max 8 (min 64 n) }) →
        ∃ t, exec (.loadGeometry l tag [i]) s = .next t ∧
          (∀ k, t.map.columns.get? k = m.columns.get? k) ∧
          t.map = { m with columns := t.map.columns } ∧ unchangedBut [.map] s t ∧
          t.sent = s.sent ++ [response l tag .loadGeometry .accepted]) ∧
      (∀ (i : GeometryItem) (r : Reason),
        (let judged := fun (named : Prop) (p : Nat) =>
          named ∧ 1023 < p ∧ r = .outOfRail ∨ ¬named ∧ p ≤ 1023 ∧ r = .badField
        match i with
          | .column k c p => judged (k ≤ 15 ∧ c ≤ 15) p
          | .drive d p => judged (d ≤ 15) p
          | .ringBay b p => judged (b ≤ 1) p
          | .hatchBay b p => judged (b ≤ 3) p
          | .separation _ => False) →
        exec (.loadGeometry l tag [i]) s =
          .next (afterSending [response l tag .loadGeometry (.tableReject [.refused 1 r])] s)) ∧
      ∀ (n : Nat) (a b : Span), (s.arm .a).claim = some a → (s.arm .b).claim = some b →
        b.low < a.high + max 8 (min 64 n) → exec (.loadGeometry l tag [.separation n]) s =
          .next (afterSending [response l tag .loadGeometry
            (.tableReject [.refused 1 .armsTooClose])] s)) ∧
    ∀ items, s.mode.takesLoads = false → exec (.loadGeometry l tag items) s =
      .next (afterSending [response l tag .loadGeometry .wrongMode] s)

/-- An accepted LOAD_DRIVES item sets the six configuration fields it gives, a threshold of 0 setting 1, and
no other field of the drive or of another; making a drive that is not EMPTY, or has a job, unconfigured is
refused DRIVE_BUSY (R23). -/
def Obligations.DrivesLoaded : Prop :=
  ∀ (s : State) (l : Link) (tag : Nat) (i : DriveItem) (d : DriveId) (k : Fin 4), permits s l →
    i.drive = d.val → i.driveClass = k.val → i.owningLink ≤ 7 →
    (s.mode.takesLoads = true →
      (¬((s.drive d).configured = true ∧ i.configured = false ∧
          ((s.drive d).state ≠ .empty ∨ (s.drive d).job ≠ none)) →
        ∃ t, exec (.loadDrives l tag [i]) s = .next t ∧
          t.drive d = { s.drive d with
            configured := i.configured, driveClass := k, owningLink := i.owningLink
            autoDemount := i.autoDemount, threshold := max 1 i.threshold
            cleanInterval := i.cleanInterval } ∧
          (∀ d', d' ≠ d → t.drive d' = s.drive d') ∧ unchangedBut [.drives] s t ∧
          t.sent = s.sent ++ [response l tag .loadDrives .accepted]) ∧
      ((s.drive d).configured = true → i.configured = false →
        ((s.drive d).state ≠ .empty ∨ (s.drive d).job ≠ none) →
        exec (.loadDrives l tag [i]) s = .next (afterSending
          [response l tag .loadDrives (.tableReject [.refused 1 .driveBusy])] s))) ∧
    (s.mode.takesLoads = false → exec (.loadDrives l tag [i]) s =
      .next (afterSending [response l tag .loadDrives .wrongMode] s))

/-- A LOAD_ACCOUNTS item with an index above 63 or an ill-formed code is refused BAD_FIELD. An accepted item
for an index 1 to 63 sets the code and the allowance and zeroes the live totals when the code changes; one
for index 0 sets the allowance alone. Another account's code is refused CODE_PRESENT, a change of the code of
an account in use ACCOUNT_BUSY, and an allowance below the mounts used BELOW_USED, by the first check that
fails (R152). -/
def Obligations.AccountsLoaded : Prop :=
  ∀ (s : State) (l : Link) (tag allowance : Nat), permits s l →
    (∀ (i : Nat) (code : Code), (63 < i ∨ codeGood code = false) →
      exec (.loadAccounts l tag [{ index := i, code := code, allowance := allowance }]) s =
        .next (afterSending
          [response l tag .loadAccounts (.tableReject [.refused 1 .badField])] s)) ∧
    ∀ (a : AccountId) (code : Code), codeGood code = true →
    let e := s.accounting.accounts.get a
    let load := Instr.loadAccounts l tag [{ index := a.val, code := code, allowance := allowance }]
    let refused := fun r : Reason => exec load s =
      .next (afterSending [response l tag .loadAccounts (.tableReject [.refused 1 r])] s)
    let free := a = 0 ∨ code = blankCode ∨
      ∀ k : AccountId, k ≠ 0 → k ≠ a → (s.accounting.accounts.get k).code ≠ code
    let busy := (∃ j ∈ s.work.jobs, j.2.account = a) ∨
      (∃ d o, (s.drive d).occupancy = some o ∧ o.account = a) ∨ e.closed ≠ none ∨
      0 < e.live.unlistedCharge
    let used := if a ≠ 0 ∧ code ≠ e.code then 0 else e.live.mountsUsed
    (free → (a = 0 ∨ code = e.code ∨ ¬busy) → (allowance = 0 ∨ used ≤ allowance) →
      ∃ t, exec load s = .next t ∧
        t.accounting.accounts.get a =
          (if a = 0 then { e with allowance := allowance }
          else { e with
            code := code, allowance := allowance
            live := if code = e.code then e.live else Totals.zero }) ∧
        (∀ k, k ≠ a → t.accounting.accounts.get k = s.accounting.accounts.get k) ∧
        t.accounting = { s.accounting with accounts := t.accounting.accounts } ∧
        unchangedBut [.accounting] s t ∧
        t.sent = s.sent ++ [response l tag .loadAccounts .accepted]) ∧
    (¬free → refused .codePresent) ∧
    (free → a ≠ 0 → code ≠ e.code → busy → refused .accountBusy) ∧
    (free → (a = 0 ∨ code = e.code ∨ ¬busy) → allowance ≠ 0 → allowance < used → refused .belowUsed)

/-- A tariff whose items are in range is written whole: in CONFIGURE into the active copy with no pending
copy left, and in any other mode into the pending copy; a start that is not above the one before it is
refused NOT_ASCENDING (R143, R144). -/
def Obligations.TariffLoaded : Prop :=
  ∀ (s : State) (l : Link) (tag : Nat) (f : TariffFrame), permits s l →
    1 ≤ f.bandCount → f.bandCount ≤ 4 → f.starts.get 0 = 0 →
    (∀ i : Fin 4, i.val < f.bandCount → f.starts.get i ≤ 86399) →
    let copy : Tariff :=
      { starts := f.starts.items.take f.bandCount, rates := f.rates, fees := f.fees
        transfers := f.transfers, grace := f.grace }
    ((∀ i j : Fin 4, i < j → j.val < f.bandCount → f.starts.get i < f.starts.get j) →
      (∀ k b : Fin 4, (f.rates.get k).get b ≤ 4095) → (∀ k : Fin 4, f.fees.get k ≤ 4095) →
      ∃ t, exec (.loadTariff l tag f) s = .next t ∧ unchangedBut [.accounting] s t ∧
        (s.mode = .configure →
          t.accounting = { s.accounting with active := copy, pendingTariff := none } ∧
          t.sent = s.sent ++ [response l tag .loadTariff .acceptedActive]) ∧
        (s.mode ≠ .configure →
          t.accounting = { s.accounting with pendingTariff := some copy } ∧
          t.sent = s.sent ++ [response l tag .loadTariff .acceptedPending])) ∧
    ((∃ i j : Fin 4, i < j ∧ j.val < f.bandCount ∧ f.starts.get j ≤ f.starts.get i) →
      ∃ i, exec (.loadTariff l tag f) s = .next (afterSending
        [response l tag .loadTariff (.tableRejectTariff (.start i) .notAscending)] s))

/-- A LOAD_ROUTING item with a kind and a target sets the kind's target set and no other. A SET_POLICY item
sets its setting, a number clamped to its range, and reports the value set; a permission that would leave
no link permitted is refused LAST_LINK; a new high-water mark is judged against the record queue at once. An
unknown kind or setting, or an empty target set, is refused BAD_FIELD (R114, R131, R160, R190, R191). -/
def Obligations.RoutingAndPolicySet : Prop :=
  ∀ (s : State) (l : Link) (tag n : Nat), permits s l →
    (∀ (i : RoutingItem) (k : PromptKind), i.kind = some k →
      (i.targets.console0 = true ∨ i.targets.console1 = true) →
      ∃ t, exec (.loadRouting l tag [i]) s = .next t ∧
        t.desk = { s.desk with routing := s.desk.routing.set (promptKindIndex k) i.targets } ∧
        unchangedBut [.desk] s t ∧ t.sent = s.sent ++ [response l tag .loadRouting .accepted]) ∧
    (∀ i : RoutingItem, (i.kind = none ∨ i.targets.console0 = false ∧ i.targets.console1 = false) →
      exec (.loadRouting l tag [i]) s = .next (afterSending
        [response l tag .loadRouting (.tableReject [.refused 1 .badField])] s)) ∧
    (∀ x : ExponentSetting, ∃ t, exec (.setPolicy l tag [.exponent x n]) s = .next t ∧
      (let m := min 7 n
      t.policy = (match x with
        | .supervision => { s.policy with supervision := m }
        | .loadTimeout => { s.policy with loadTimeout := m }
        | .aging => { s.policy with aging := m }
        | .reminder => { s.policy with reminder := m }
        | .decision => { s.policy with decision := m }
        | .information => { s.policy with information := m }
        | .deferral => { s.policy with deferral := m }) ∧
      t.sent = s.sent ++ [response l tag .setPolicy (.acceptedItems [.value (.exponent x m)])]) ∧
      unchangedBut [.policy] s t) ∧
    (∃ t, exec (.setPolicy l tag [.escalationCount n]) s = .next t ∧
      t.policy = { s.policy with escalationCount := max 1 (min 7 n) } ∧
      t.sent = s.sent ++ [response l tag .setPolicy
        (.acceptedItems [.value (.escalationCount (max 1 (min 7 n)))])] ∧
      unchangedBut [.policy] s t) ∧
    (∀ a, ∃ t, exec (.setPolicy l tag [.approveDefault (some a)]) s = .next t ∧
      t.policy = { s.policy with approveDefault := a } ∧
      t.sent = s.sent ++ [response l tag .setPolicy
        (.acceptedItems [.value (.approveDefault (some a))])] ∧
      unchangedBut [.policy] s t) ∧
    (∃ t, exec (.setPolicy l tag [.highWater n]) s = .next t ∧
      t.policy = { s.policy with highWater := max 1 (min 15 n) } ∧
      (t.notice .recordsHigh).level =
        decide (max 1 (min 15 n) * 16 ≤ s.accounting.records.length) ∧
      sentFirst (response l tag .setPolicy
        (.acceptedItems [.value (.highWater (max 1 (min 15 n)))])) s t ∧
      unchangedBut [.policy, .notices] s t) ∧
    (∀ (k : Link) (b : Bool), (b = true ∨ ∃ m, m ≠ k ∧ permits s m) →
      ∃ t, exec (.setPolicy l tag [.permission k.val (some b)]) s = .next t ∧
        (∀ m, t.intake.get m = { s.intake.get m with
          permitted := if m = k then b else (s.intake.get m).permitted }) ∧
        t.sent = s.sent ++ [response l tag .setPolicy
          (.acceptedItems [.value (.permission k.val (some b))])] ∧
        unchangedBut [.intake] s t) ∧
    (∀ k : Link, (∀ m, m ≠ k → ¬permits s m) →
      exec (.setPolicy l tag [.permission k.val (some false)]) s = .next (afterSending
        [response l tag .setPolicy (.tableReject [.refused 1 .lastLink])] s)) ∧
    exec (.setPolicy l tag [.unknown]) s = .next (afterSending
      [response l tag .setPolicy (.tableReject [.refused 1 .badField])] s)

/-- READ_NOTICES answers with the notices as they stand and clears the pending set only under clear-on-read;
CLEAR_NOTICES clears the pending flags of the classes named and no other flag; SET_NOTICES sets the enable,
link or setting its item names, a clear-enable of an event class being refused (R200, R201). -/
def Obligations.NoticesReadAndSet : Prop :=
  ∀ (s : State) (l : Link) (tag : Nat), permits s l →
    (∃ t, exec (.readNotices l tag) s = .next t ∧ unchangedBut [.notices] s t ∧
      t.sent = s.sent ++ [response l tag .readNotices (.notices s.notices)] ∧
      t.notices.link = s.notices.link ∧ t.notices.clearOnRead = s.notices.clearOnRead ∧
      ∀ c, t.notice c = { s.notice c with
        pending := !s.notices.clearOnRead && (s.notice c).pending }) ∧
    (∀ cs, ∃ t, exec (.clearNotices l tag cs) s = .next t ∧ unchangedBut [.notices] s t ∧
      t.sent = s.sent ++ [response l tag .clearNotices .accepted] ∧
      t.notices.link = s.notices.link ∧ t.notices.clearOnRead = s.notices.clearOnRead ∧
      ∀ c, t.notice c = { s.notice c with
        pending := if c ∈ cs then false else (s.notice c).pending }) ∧
    (∀ c b, ∃ t, exec (.setNotices l tag [.raiseEnable c (some b)]) s = .next t ∧
      unchangedBut [.notices] s t ∧
      t.sent = s.sent ++ [response l tag .setNotices .accepted] ∧
      ∀ k, t.notice k = { s.notice k with
        raiseEnable := if k = c then b else (s.notice k).raiseEnable }) ∧
    (∀ c b, isConditionClass c = true →
      ∃ t, exec (.setNotices l tag [.clearEnable c (some b)]) s = .next t ∧
        unchangedBut [.notices] s t ∧
        ∀ k, t.notice k = { s.notice k with
          clearEnable := if k = c then b else (s.notice k).clearEnable }) ∧
    (∀ c b, isConditionClass c = false → exec (.setNotices l tag [.clearEnable c b]) s =
      .next (afterSending [response l tag .setNotices (.tableReject [.refused 1 .badField])] s)) ∧
    (∀ k : Link, ∃ t, exec (.setNotices l tag [.noticeLink k.val]) s = .next t ∧
      t.notices = { s.notices with link := k } ∧ unchangedBut [.notices] s t) ∧
    ∀ b, ∃ t, exec (.setNotices l tag [.clearOnRead (some b)]) s = .next t ∧
      t.notices = { s.notices with clearOnRead := b } ∧ unchangedBut [.notices] s t

/-- CLEAR_ERRORS makes the first-error record absent, empties the next-error set and keeps the ring and the
counter. An error logged before it stays in the ring and is cleared from both; an error logged after it is
the new first error; either way ERROR_LOGGED is raised (R198). -/
def Obligations.ErrorsCleared : Prop :=
  ∀ (s : State) (l : Link) (tag : Nat) (k : ErrorKind) (g : ErrorSeverity) (f : ErrorFields),
    permits s l →
    let raised := Sent.link s.notices.link (.notice (.errorLogged s.errors.counter k))
    (∃ t, exec (.clearErrors l tag) s = .next t ∧
      t.errors = { s.errors with first := none, next := [] } ∧ unchangedBut [.errors] s t ∧
      t.sent = s.sent ++ [response l tag .clearErrors .accepted] ∧
      (t.logError k g f).errors.first = some (s.errorEntry k g f) ∧
      ((s.notice .errorLogged).raiseEnable = true → raised ∈ (t.logError k g f).sent)) ∧
    ∃ u, exec (.clearErrors l tag) (s.logError k g f) = .next u ∧ u.errors.first = none ∧
      u.errors.next = [] ∧ s.errorEntry k g f ∈ u.errors.ring ∧
      u.errors.counter = (s.errors.counter + 1) % 65536 ∧
      ((s.notice .errorLogged).raiseEnable = true → raised ∈ u.sent)

/-! ### The clock -/

/-- SET_CLOCK sets the day, of 0 to 65535, and the second of day, zeroes the tick and the ticks to drop, and
starts the clock, keeping the compensation and the close settings and raising no event; a second of day above
86399 is refused and changes nothing. ROUND_CLOCK moves a RUNNING clock to the nearest whole minute, seconds 0 to
29 back and 30 to 59 forward, without weighing the tick, carries past midnight into the day, and zeroes the tick
and the ticks to drop; a clock in NOT_SET is refused NOT_RUNNING (R138, R139, R140). -/
def Obligations.ClockSetOrRounded : Prop :=
  ∀ (s : State) (l : Link) (tag : Nat), permits s l →
    (∀ day second : Nat, day ≤ 65535 →
      (second ≤ 86399 → ∃ t, exec (.setClock l tag day second) s = .next t ∧
        t.clock = { s.clock with
          state := .running, day := day, second := second, tick := 0, ticksToDrop := 0 } ∧
        unchangedBut [.clock] s t ∧
        t.sent = s.sent ++ [response l tag .setClock (.acceptedTime day second)]) ∧
      (86399 < second → exec (.setClock l tag day second) s =
        .next (afterSending [response l tag .setClock (.tableRejectReason .badField)] s))) ∧
    (s.clock.state = .running → s.clock.second ≤ 86399 →
      ∃ t, exec (.roundClock l tag) s = .next t ∧
        t.clock = { s.clock with
          tick := 0, ticksToDrop := 0
          second :=
            if s.clock.second % 60 < 30 then s.clock.second - s.clock.second % 60
            else if 86370 ≤ s.clock.second then 0
            else s.clock.second - s.clock.second % 60 + 60
          day := if 86370 ≤ s.clock.second then (s.clock.day + 1) % 65536 else s.clock.day } ∧
        unchangedBut [.clock] s t ∧
        t.sent = s.sent ++
          [response l tag .roundClock (.acceptedTime t.clock.day t.clock.second)]) ∧
    (s.clock.state = .notSet → exec (.roundClock l tag) s =
      .next (afterSending [response l tag .roundClock .notRunning] s))

/-- ADJUST_CLOCK sets the compensation it carries, -128 setting -127, and leaves a running count of ticks to
drop as it is. SET_CLOSE sets the close mode with the set of shift times it gives, up to three and none in any
mode but SHIFTS; SHIFTS with no time is refused BAD_FIELD, and so is a time above 86399 (R133, R136, R141).
That such a time is refused in every close mode, though R141 carries times for SHIFTS alone, is assumption
log 45, the model's choice. -/
def Obligations.ClockTrimmedAndCloseSet : Prop :=
  ∀ (s : State) (l : Link) (tag : Nat), permits s l →
    (∀ c : Int, -128 ≤ c → c ≤ 127 → ∃ t, exec (.adjustClock l tag c) s = .next t ∧
      (let set := if c = -128 then -127 else c
      t.clock = { s.clock with compensation := set } ∧ unchangedBut [.clock] s t ∧
      t.sent = s.sent ++ [response l tag .adjustClock (.acceptedCompensation set)])) ∧
    (∀ (m : CloseMode) (times : List Nat), times.length ≤ 3 → (∀ x ∈ times, x ≤ 86399) →
      (m = .shifts → times ≠ []) →
      ∃ t, exec (.setClose l tag m times) s = .next t ∧
        t.clock = { s.clock with closeMode := m, shiftTimes := t.clock.shiftTimes } ∧
        t.clock.shiftTimes.Nodup ∧
        (∀ x, x ∈ t.clock.shiftTimes ↔ m = .shifts ∧ x ∈ times) ∧ unchangedBut [.clock] s t ∧
        t.sent = s.sent ++ [response l tag .setClose .accepted]) ∧
    ∀ (m : CloseMode) (times : List Nat), ((∃ x ∈ times, 86399 < x) ∨ m = .shifts ∧ times = []) →
      exec (.setClose l tag m times) s =
        .next (afterSending [response l tag .setClose (.tableRejectReason .badField)] s)

/-- A second advance that meets no hour and no close: the second of day rises by 1 and the tick is 0; each
open occupancy spends a grace second, or counts one second in the band of the second before the advance,
saturating; and the account of an occupancy alone on it counts one period second (R134, R143, R148). That
SECOND_ADVANCE stands for the ticks up to the carry is assumption log 7. -/
def Obligations.SecondAdvanced : Prop :=
  ∀ s : State, s.clock.state = .running → s.clock.second ≤ 86399 →
    (s.clock.second + 1) % 3600 ≠ 0 → s.clock.closeMode = .manual →
    ∃ t, exec .secondAdvance s = .next t ∧
      t.clock = { s.clock with second := s.clock.second + 1, tick := 0, ticksToDrop := 0 } ∧
      (∀ d, (s.drive d).occupancy = none → (t.drive d).occupancy = none) ∧
      (∀ d o, (s.drive d).occupancy = some o → ∃ o', (t.drive d).occupancy = some o' ∧
        o' = { o with graceLeft := o.graceLeft - 1, bandSeconds := o'.bandSeconds } ∧
        ∀ b : Fin 4, o'.bandSeconds.get b =
          if o.graceLeft = 0 ∧ b.val = s.accounting.active.band s.clock.second
          then min 16777215 (o.bandSeconds.get b + 1) else o.bandSeconds.get b) ∧
      (∀ a : AccountId, (∀ d o, (s.drive d).occupancy = some o → o.account ≠ a) →
        t.accounting.accounts.get a = s.accounting.accounts.get a) ∧
      (∀ d o, (s.drive d).occupancy = some o →
        (∀ d' o', d' ≠ d → (s.drive d').occupancy = some o' → o'.account ≠ o.account) →
        (t.accounting.accounts.get o.account).live.periodSeconds =
          min 4294967295 ((s.accounting.accounts.get o.account).live.periodSeconds + 1)) ∧
      t.accounting = { s.accounting with accounts := t.accounting.accounts } ∧
      (∀ d, (t.drive d).state = (s.drive d).state ∧ (t.drive d).errorCount = (s.drive d).errorCount) ∧
      unchangedBut (aftermath ++ [.clock, .accounting]) s t

/-- A second advance onto an hour lowers the error count of each configured drive above 0, carries past
midnight into the day, and applies the compensation: ticks added, with one further second when they pass 63,
or ticks to drop (R36, R134, R135). That SECOND_ADVANCE stands for the ticks up to the carry is assumption
log 7. -/
def Obligations.HourPassed : Prop :=
  ∀ s : State, s.clock.state = .running → s.clock.second ≤ 86399 →
    (s.clock.second + 1) % 3600 = 0 → s.clock.closeMode = .manual →
    ∃ t, exec .secondAdvance s = .next t ∧
      (∀ d, (t.drive d).errorCount =
        if (s.drive d).configured then (s.drive d).errorCount - 1 else (s.drive d).errorCount) ∧
      (let c := s.clock.compensation
      let midnight := s.clock.second = 86399
      let second := if midnight then 0 else s.clock.second + 1
      t.clock.day = (if midnight then (s.clock.day + 1) % 65536 else s.clock.day) ∧
      t.clock.compensation = c ∧ t.clock.state = .running ∧
      (c = 0 → t.clock.second = second ∧ t.clock.tick = 0 ∧ t.clock.ticksToDrop = 0) ∧
      (0 < c → c ≤ 63 →
        t.clock.second = second ∧ (t.clock.tick : Int) = c ∧ t.clock.ticksToDrop = 0) ∧
      (64 ≤ c → c ≤ 127 → t.clock.second = second + 1 ∧ (t.clock.tick : Int) = c - 64 ∧
        t.clock.ticksToDrop = 0) ∧
      (c < 0 → t.clock.second = second ∧ t.clock.tick = 0 ∧ (t.clock.ticksToDrop : Int) = -c)) ∧
      unchangedBut (aftermath ++ [.clock, .accounting]) s t

/-- A second advance raises a close event in HOURLY at an hour, in DAILY at midnight, in SHIFTS at a shift time
and in MANUAL never, and the extra advance of a compensation above 63 ticks may raise one of its own. Each close
ends a period. A close, with no job HELD ALLOWANCE, charges each open occupancy with a PARTIAL record stamped with
the new second, moves every account's live totals to its closed slot, makes a pending tariff the active one and
raises PERIOD_CLOSED; without a close nothing of the period is touched (R134, R135, R141, R163, R164). That
SECOND_ADVANCE stands for the ticks up to the carry is assumption log 7. -/
def Obligations.CloseRaisedByTheClock : Prop :=
  ∀ s : State, s.clock.state = .running → s.clock.second ≤ 86399 → s.clock.compensation ≤ 127 →
    let second := if s.clock.second = 86399 then 0 else s.clock.second + 1
    let stamp : Stamp :=
      { day := if s.clock.second = 86399 then (s.clock.day + 1) % 65536 else s.clock.day, second := second }
    let extra := second % 3600 = 0 ∧ 64 ≤ s.clock.compensation
    let closesAt := fun w : Nat =>
      match s.clock.closeMode with
      | .hourly => w % 3600 = 0
      | .daily => w = 0
      | .shifts => w ∈ s.clock.shiftTimes
      | .manual => False
    ∃ t, exec .secondAdvance s = .next t ∧ unchangedBut (aftermath ++ [.clock, .accounting]) s t ∧
      (¬closesAt second → ¬(extra ∧ closesAt (second + 1)) →
        t.accounting = { s.accounting with accounts := t.accounting.accounts } ∧
        (∀ a, (t.accounting.accounts.get a).closed = (s.accounting.accounts.get a).closed) ∧
        ∀ d o, (s.drive d).occupancy = some o → ∃ o', (t.drive d).occupancy = some o' ∧
          o'.feePending = o.feePending ∧ o'.recordStart = o.recordStart) ∧
      ((closesAt second ∧ ¬(extra ∧ closesAt (second + 1)) ∨
          ¬closesAt second ∧ extra ∧ closesAt (second + 1)) →
        t.accounting.period = (s.accounting.period + 1) % 4294967296) ∧
      (closesAt second → extra → closesAt (second + 1) →
        t.accounting.period = (s.accounting.period + 2) % 4294967296) ∧
      (closesAt second → ¬extra → (∀ k ∈ s.work.jobs, k.2.state ≠ .held .allowance) →
        t.accounting.active = s.accounting.pendingTariff.getD s.accounting.active ∧
        t.accounting.pendingTariff = none ∧
        ((s.notice .periodClosed).raiseEnable = true →
          sentAmong (.link s.notices.link (.notice (.periodClosed s.accounting.period))) s t) ∧
        (∀ a, (t.accounting.accounts.get a).live = Totals.zero ∧
          ∃ c, (t.accounting.accounts.get a).closed = some c ∧ c.period = s.accounting.period ∧
            c.stamp = stamp ∧ c.merged = (s.accounting.accounts.get a).closed.isSome) ∧
        (∀ d o, (s.drive d).occupancy = some o → (t.drive d).occupancy = some
          { o with
            graceLeft := o.graceLeft - 1, feePending := false
            bandSeconds := Bank.replicate 4 0, recordStart := stamp }) ∧
        ((∀ d, (s.drive d).occupancy = none) → t.accounting.records = s.accounting.records) ∧
        ∀ d o, (s.drive d).occupancy = some o → (∀ d', d' ≠ d → (s.drive d').occupancy = none) →
          s.accounting.records.length < 256 →
          ∃ r, t.accounting.records = s.accounting.records ++ [r] ∧ r.kind = .partialRecord ∧
            r.period = s.accounting.period ∧ r.account = o.account ∧ r.drive = d ∧
            r.start = o.recordStart ∧ r.finish = stamp ∧
            (∀ b : Fin 4, r.bandSeconds.get b =
              if o.graceLeft = 0 ∧ b.val = s.accounting.active.band s.clock.second
              then min 16777215 (o.bandSeconds.get b + 1) else o.bandSeconds.get b) ∧
            r.charge = min 16777215 (timeAndFee s d { o with bandSeconds := r.bandSeconds }))

/-- A tick of the time base: with ticks to drop one is dropped and the counts stand; otherwise the tick count
rises by 1, and from 63 the clock makes its second advance; a clock in NOT_SET stands still. Every running
timer of the part is lowered by one tick, whatever the clock (R133, R134). That the part's own timers run on
this tick is assumption log 6. -/
def Obligations.TimeBaseTicked : Prop :=
  ∀ s : State,
    (∃ t, exec .timeBaseTick s = .next t ∧
      (s.clock.state = .notSet → t.clock = s.clock) ∧
      (s.clock.state = .running → 0 < s.clock.ticksToDrop →
        t.clock = { s.clock with ticksToDrop := s.clock.ticksToDrop - 1 }) ∧
      (s.clock.state = .running → s.clock.ticksToDrop = 0 → s.clock.tick < 63 →
        t.clock = { s.clock with tick := s.clock.tick + 1 }) ∧
      ((s.clock.state = .notSet ∨ 0 < s.clock.ticksToDrop ∨ s.clock.tick < 63) →
        t.sent = s.sent ∧ unchangedBut [.drives, .arms, .work, .desk, .clock] s t ∧
        (∀ d, t.drive d = { s.drive d with
          loadTimer := (s.drive d).loadTimer.lower 1
          cleaningTimer := (s.drive d).cleaningTimer.lower 1 }) ∧
        (∀ x, t.arm x = { s.arm x with supervision := (s.arm x).supervision.lower 1 }) ∧
        (∀ n, t.job? n = (s.job? n).map fun j => { j with aging := j.aging.lower 1 }) ∧
        ∀ n, t.prompt? n = (s.prompt? n).map fun p =>
          { p with
            reminderTimer := p.reminderTimer.lower 1, limitTimer := p.limitTimer.lower 1
            deferTimers := p.deferTimers.map (Timer.lower 1) })) ∧
    (s.clock.state = .running → s.clock.ticksToDrop = 0 → 63 ≤ s.clock.tick →
      s.clock.second ≤ 86399 → (s.clock.second + 1) % 3600 ≠ 0 → s.clock.closeMode = .manual →
      ∃ t, exec .timeBaseTick s = .next t ∧
        t.clock = { s.clock with second := s.clock.second + 1, tick := 0 })

/-! ### Usage accounting -/

/-- CLOSE_PERIOD, with no job HELD ALLOWANCE: each open occupancy is charged by a PARTIAL record and starts
afresh without its fee, every account's live totals move into its closed slot, or are added there, and are
zeroed, the period number rises, a pending tariff becomes the active one, and PERIOD_CLOSED is raised (R142,
R163, R164). That a record's serial is the one the map holds at the close is assumption log 70, the model's
choice. -/
def Obligations.PeriodClosed : Prop :=
  ∀ (s : State) (l : Link) (tag : Nat), permits s l →
    (∀ k ∈ s.work.jobs, k.2.state ≠ .held .allowance) →
    ∃ t, exec (.closePeriod l tag) s = .next t ∧
      sentFirst (response l tag .closePeriod .accepted) s t ∧
      t.accounting.period = (s.accounting.period + 1) % 4294967296 ∧
      t.accounting.active = s.accounting.pendingTariff.getD s.accounting.active ∧
      t.accounting.pendingTariff = none ∧
      (∀ d, (t.drive d).occupancy = (s.drive d).occupancy.map fun o =>
        { o with feePending := false, bandSeconds := Bank.replicate 4 0, recordStart := s.stamp }) ∧
      (∀ a, (t.accounting.accounts.get a).live = Totals.zero ∧
        (t.accounting.accounts.get a).code = (s.accounting.accounts.get a).code ∧
        (t.accounting.accounts.get a).allowance = (s.accounting.accounts.get a).allowance) ∧
      (∀ a, (∀ d o, (s.drive d).occupancy = some o → o.account ≠ a) →
        (let e := s.accounting.accounts.get a
        ((s.accounting.accounts.get a).closed = none → (t.accounting.accounts.get a).closed =
          some { period := s.accounting.period, stamp := s.stamp, merged := false, totals := e.live }) ∧
        ∀ c, e.closed = some c → (t.accounting.accounts.get a).closed =
          some { period := s.accounting.period, stamp := s.stamp, merged := true, totals :=
            { mountsUsed := min 65535 (c.totals.mountsUsed + e.live.mountsUsed)
              overrides := min 65535 (c.totals.overrides + e.live.overrides)
              periodCharge := min 4294967295 (c.totals.periodCharge + e.live.periodCharge)
              chargeSaturated := c.totals.chargeSaturated || e.live.chargeSaturated ||
                decide (4294967295 < c.totals.periodCharge + e.live.periodCharge)
              periodSeconds := min 4294967295 (c.totals.periodSeconds + e.live.periodSeconds)
              listedCount := min 4294967295 (c.totals.listedCount + e.live.listedCount)
              unlistedCount := min 4294967295 (c.totals.unlistedCount + e.live.unlistedCount)
              unlistedCharge := min 4294967295 (c.totals.unlistedCharge + e.live.unlistedCharge) } })) ∧
      ((∀ d, (s.drive d).occupancy = none) → t.accounting.records = s.accounting.records ∧
        t.accounting.recordSequence = s.accounting.recordSequence) ∧
      (∀ d o, (s.drive d).occupancy = some o → (∀ d', d' ≠ d → (s.drive d').occupancy = none) →
        t.accounting.recordSequence = (s.accounting.recordSequence + 1) % 4294967296 ∧
        (s.accounting.records.length < 256 → ∃ r, t.accounting.records = s.accounting.records ++ [r] ∧
          r.kind = .partialRecord ∧ recordOf s d o r ∧ r.blocksRead = 0 ∧ r.blocksWritten = 0 ∧
          r.correctable = 0 ∧ r.charge = min 16777215 (timeAndFee s d o) ∧
          r.saturated = decide (16777215 < timeAndFee s d o))) ∧
      ((s.notice .periodClosed).raiseEnable = true →
        sentAmong (.link s.notices.link (.notice (.periodClosed s.accounting.period))) s t) ∧
      unchangedBut (aftermath ++ [.accounting]) s t

/-- READ_RECORDS takes up to four records from the front of the queue with its response, and the
record-queue-high condition is judged after it; the response is a train to destination 17 of a first frame and
one frame for each record, numbered in their order under the request's tag, each with its true CRC. READ_CLOSED returns a full closed slot and empties it,
and answers EMPTY for an empty one and BAD_REQUEST for an index above 63 (R159, R160, R166, R181, R182, R185,
R188, R192). -/
def Obligations.RecordsAndSlotsRead : Prop :=
  ∀ (s : State) (l : Link) (tag : Nat), permits s l →
    (let left := s.accounting.records.drop 4
    let taken := s.accounting.records.take 4
    let answer := response l tag .readRecords (.records taken left.length)
    (answer.frames.length = taken.length + 1 ∧ ∀ i f, answer.frames[i]? = some f →
      f.destination = 17#8 ∧ f.origin = 16#8 ∧ f.tag = BitVec.ofNat 8 tag ∧ f.crcGood = true ∧
        f.train.toNat = (taken.length + 1) * 16 + (i + 1) ∧
        ∀ k r, i = k + 1 → taken[k]? = some r → (recordBytes r).length = 59 →
          f.payload = recordBytes r) ∧
    ∃ t, exec (.readRecords l tag) s = .next t ∧ sentFirst answer s t ∧
      t.accounting = { s.accounting with records := left } ∧
      (t.notice .recordsHigh).level = decide (s.policy.highWater * 16 ≤ left.length) ∧
      unchangedBut [.accounting, .notices] s t) ∧
    (∀ (a : AccountId) (c : ClosedSlot), (s.accounting.accounts.get a).closed = some c →
      ∃ t, exec (.readClosed l tag a.val) s = .next t ∧
        t.sent = s.sent ++ [response l tag .readClosed (.closedSlot c)] ∧
        t.accounting.accounts.get a = { s.accounting.accounts.get a with closed := none } ∧
        (∀ k, k ≠ a → t.accounting.accounts.get k = s.accounting.accounts.get k) ∧
        t.accounting = { s.accounting with accounts := t.accounting.accounts } ∧
        unchangedBut [.accounting] s t) ∧
    (∀ a : AccountId, (s.accounting.accounts.get a).closed = none →
      exec (.readClosed l tag a.val) s =
        .next (afterSending [response l tag .readClosed .emptySlot] s)) ∧
    ∀ i, 63 < i → exec (.readClosed l tag i) s =
      .next (afterSending [response l tag .readClosed .badRequest] s)

/-! ### The drive string -/

/-- A READY for a job, of a LOADING drive or of a RESERVED one whose mount by hand is asked for, opens the
occupancy and counts the volume's use. A job not cancelled ends with MOUNT_COMPLETE and leaves the drive
OCCUPIED; a cancelled one is rewound and waits to be unloaded (R20, R27, R147). -/
def Obligations.ReadyCompletesMount : Prop :=
  ∀ (s : State) (d : DriveId) (we : Bool) (label : Option Code) (n : Nat) (j : Job),
    s.reads d = true → (s.drive d).job = some n → s.job? n = some j → j.kind = .mount →
    j.drive = some d → j.arm = none → (label = none ∨ label = j.serial) →
    let loading := (s.drive d).state = .loading
    let byHand := (s.drive d).state = .reserved ∧ j.state = .manual ∧
      ∃ m p, j.prompt = some m ∧ s.prompt? m = some p ∧ p.kind = .mountByHand
    loading ∨ byHand →
    ∃ t, exec (.ready d we label) s = .next t ∧
      sentFirst (.link (s.upwardLink d) (.status d (.ready we label))) s t ∧
      (t.drive d).occupancy = some
        { account := j.account, mountKind := j.mountKind, volume := j.volume, origin := j.origin
          start := s.stamp, recordStart := s.stamp, bandSeconds := Bank.replicate 4 0
          graceLeft := s.accounting.active.grace, feePending := true
          blocksRead := 0, blocksWritten := 0, correctable := 0 } ∧
      (t.drive d).loadTimer = .stopped ∧
      (t.drive d).mountsSinceClean = min 255 ((s.drive d).mountsSinceClean + 1) ∧
      (j.cancelled = false → (t.drive d).state = .occupied ∧ (t.drive d).job = none ∧
        toldOrigin n j (.mountComplete (!we)) s t) ∧
      (j.cancelled = true → (t.drive d).state = .unloading ∧ (t.drive d).job = some n ∧
        sentAmong (.string (.rewindUnload d)) s t ∧
        ∃ j', t.job? n = some j' ∧ j'.state = .unloadWait ∧ j'.returning = true) ∧
      (∀ v e, j.volume = some v → s.volume? v = some e →
        (loading → (∀ u, u ≠ v → t.volume? u = s.volume? u)) ∧
        t.volume? v = some { e with
          ring := if we then .ringIn else .ringOut
          mountCount := min 65535 (e.mountCount + 1)
          lastMountDay := some s.clock.day
          location := if (s.drive d).state = .loading then e.location else .drive d
          pool := if j.scratch = true ∧ j.cancelled = false then .privatePool else e.pool
          owner := if j.scratch = true ∧ j.cancelled = false then j.account else e.owner }) ∧
      (j.volume = none → t.map = s.map) ∧ (loading → t.errors = s.errors) ∧
      unchangedBut (aftermath ++ [.map, .accounting, .errors]) s t

/-- A READY that is not the one a job waits for: of a drive the part does not read it is forwarded and
nothing more; with another label than the job's serial it is a wrong reel, rewound, its volume suspect and
its job HELD WRONG_REEL; of an EMPTY drive it opens an occupancy on account 0, which names the labelled
volume when that is held nowhere else; of a RESERVED drive it does so too, and the drive's job is told
DRIVE_TAKEN: one that waits fails at once, one AT_RING turns home from its bay, and one with a take in flight
waits for that order's completion (R21, R28, R29, R61, R66). That the MOUNT_FAILED names no drive is assumption
log 42. -/
def Obligations.ReadyOfAnotherReel : Prop :=
  ∀ (s : State) (d : DriveId) (we : Bool) (label : Option Code),
    let status := Sent.link (s.upwardLink d) (.status d (.ready we label))
    (s.reads d = false → exec (.ready d we label) s = .next (afterSending [status] s)) ∧
    (∀ n j c, s.reads d = true → (s.drive d).state = .loading → (s.drive d).job = some n →
      s.job? n = some j → label = some c → j.serial ≠ some c →
      ∃ t j' o, exec (.ready d we label) s = .next t ∧ sentFirst status s t ∧
        (t.drive d).state = .unloading ∧ (t.drive d).occupancy = some o ∧ o.account = 0 ∧
        o.mountKind = .foreign ∧ o.origin = none ∧ o.volume = j.volume ∧
        sentAmong (.string (.rewindUnload d)) s t ∧ logged .wrongReel .job s t ∧
        t.job? n = some j' ∧ j'.state = .held .wrongReel ∧ j'.returning = true ∧
        (j.cancelled = false → toldOrigin n j (.mountFailed .wrongReel) s t) ∧
        (deskOpen s → asks t .wrongReel (.job (j.ref n))) ∧
        (∀ v e, j.volume = some v → s.volume? v = some e → ∃ e', t.volume? v = some e' ∧
          e'.suspect = true ∧ e'.location = e.location) ∧
        (∀ u, j.volume ≠ some u → t.volume? u = s.volume? u) ∧
        unchangedBut (aftermath ++ [.map, .errors]) s t) ∧
    (s.reads d = true → (s.drive d).state = .empty →
      ∃ t o, exec (.ready d we label) s = .next t ∧ sentFirst status s t ∧
        logged .unrequestedReady .info s t ∧ (t.drive d).state = .occupied ∧
        (t.drive d).occupancy = some o ∧ o.account = 0 ∧ o.mountKind = .foreign ∧ o.origin = none ∧
        (t.drive d).mountsSinceClean = min 255 ((s.drive d).mountsSinceClean + 1) ∧
        ((label = none ∨ ∃ c, label = some c ∧ s.findSerial c = none) →
          o.volume = none ∧ t.map = s.map ∧
          (s.desk.prompts.length < 32 → asks t .foreignReel (.drive d))) ∧
        (∀ c v e, label = some c → s.findSerial c = some v → s.volume? v = some e →
          (e.location.isHolder = false → o.volume = some v ∧ ∃ e', t.volume? v = some e' ∧
            e'.location = .drive d ∧ e'.mountCount = min 65535 (e.mountCount + 1)) ∧
          (e.location.isHolder = true → o.volume = none ∧ t.map = s.map)) ∧
        unchangedBut (aftermath ++ [.map, .errors, .accounting]) s t) ∧
    ∀ n j, s.reads d = true → (s.drive d).state = .reserved → (s.drive d).job = some n →
      s.job? n = some j → j.returning = false →
      (j.state ≠ .manual ∨ ∃ c, label = some c ∧ j.serial ≠ some c) →
      (∀ c v, label = some c → s.findSerial c = some v → j.volume ≠ some v) →
      let told := fun t : State => j.cancelled = false →
        toldOrigin n { j with drive := none } (.mountFailed .driveTaken) s t
      ∃ t o, exec (.ready d we label) s = .next t ∧ sentFirst status s t ∧
        logged .unrequestedReady .info s t ∧ (t.drive d).state = .occupied ∧ (t.drive d).job = none ∧
        (t.drive d).occupancy = some o ∧ o.account = 0 ∧ o.mountKind = .foreign ∧ o.origin = none ∧
        (s.desk.prompts.length < 32 → asks t .foreignReel (.drive d)) ∧
        ((j.state = .waiting ∨ j.state = .manual) → j.arm = none → j.ringBay = none → told t) ∧
        (∀ b v, j.state = .atRing → j.arm = none → j.ringBay = some b →
          s.station.ring.get b = .holding v (some (j.ref n)) →
          told t ∧ ∃ j', t.job? n = some j' ∧ j'.drive = none ∧ j'.returning = true ∧
            ∀ c, s.homeLeg j.volume = .stow c → j'.legs = [.ringTake b, .stow c]) ∧
        (∀ x f, j.state = .assigned → j.arm = some x → (s.arm x).job = some (j.ref n) →
          (s.arm x).hand = .empty → (s.arm x).inFlight = some f → f.order.isTake = true →
          t.job? n = some { j with drive := none } ∧ (t.arm x).inFlight = some f) ∧
        unchangedBut (aftermath ++ [.map, .errors, .accounting]) s t

/-- An UNLOADED that closes an occupancy places its FINAL record with its charge and leaves the drive
AWAITING_PULL; a DEMOUNT that waited for it goes on to PULL and STOW; of a LOADING drive it fails the mount
NOT_READY; of a CLEANING one it ends the cleaning with its record (R31, R37, R49, R149, R150, R158). That the
FINAL record's serial is the one the map holds at the UNLOADED is assumption log 70, the model's choice. -/
def Obligations.UnloadedClosesOccupancy : Prop :=
  ∀ (s : State) (d : DriveId),
    let status := Sent.link (s.upwardLink d) (.status d .unloaded)
    (s.reads d = false → exec (.unloaded d) s = .next (afterSending [status] s)) ∧
    (∀ o, s.reads d = true → ((s.drive d).state = .occupied ∨ (s.drive d).state = .unloading) →
      (s.drive d).occupancy = some o → s.accounting.records.length < 256 →
      ∃ t r, exec (.unloaded d) s = .next t ∧ sentFirst status s t ∧
        (t.drive d).state = .awaitingPull ∧ (t.drive d).occupancy = none ∧
        (t.drive d).lastMountKind = some o.mountKind ∧
        t.accounting.records = s.accounting.records ++ [r] ∧ r.kind = .final ∧ recordOf s d o r ∧
        r.blocksRead = o.blocksRead ∧ r.blocksWritten = o.blocksWritten ∧
        r.correctable = o.correctable ∧
        r.charge = min 16777215 (timeAndFee s d o + transferOf s d o) ∧
        r.saturated = decide (16777215 < timeAndFee s d o + transferOf s d o) ∧
        (t.accounting.accounts.get o.account).live.periodCharge = min 4294967295
          ((s.accounting.accounts.get o.account).live.periodCharge + r.charge) ∧
        (∀ a, a ≠ o.account → t.accounting.accounts.get a = s.accounting.accounts.get a) ∧
        ((s.drive d).job = none → (s.drive d).autoDemount = false → (t.drive d).job = none) ∧
        (∀ n j v c, (s.drive d).job = some n → s.job? n = some j → j.state = .unloadWait →
          s.locatedAt (.drive d) = some v → s.homeCell v = some c → o.mountKind ≠ .manual →
          noIdleArm s → ∃ j', t.job? n = some j' ∧ j'.state = .waiting ∧
            j'.legs = [.pull d, .stow c] ∧ j'.leg = 0) ∧
        unchangedBut (aftermath ++ [.accounting]) s t) ∧
    (∀ n j, s.reads d = true → (s.drive d).state = .loading → (s.drive d).job = some n →
      s.job? n = some j →
      ∃ t j', exec (.unloaded d) s = .next t ∧ sentFirst status s t ∧
        (t.drive d).state = .awaitingPull ∧ (t.drive d).loadTimer = .stopped ∧
        t.job? n = some j' ∧ j'.returning = true ∧
        (j.cancelled = false → toldOrigin n j (.mountFailed .notReady) s t) ∧
        unchangedBut aftermath s t) ∧
    (s.reads d = true → (s.drive d).state = .cleaning → s.accounting.records.length < 256 →
      ∃ t r, exec (.unloaded d) s = .next t ∧ sentFirst status s t ∧
        (t.drive d).state = .awaitingPull ∧ (t.drive d).mountsSinceClean = 0 ∧
        (t.drive d).cleaningTimer = .stopped ∧
        t.accounting.records = s.accounting.records ++ [r] ∧ r.kind = .clean ∧ r.account = 0 ∧
        r.charge = 0 ∧
        (∀ v e, s.locatedAt (.drive d) = some v → s.volume? v = some e →
          t.volume? v = some { e with usesLeft := e.usesLeft - 1 }) ∧
        unchangedBut (aftermath ++ [.map, .accounting]) s t)

/-- A CHECK counts 1 for CORRECTABLE and 8 for PERMANENT, and a USAGE its correctable errors and its blocks.
A count at the threshold drains the drive, logs DRIVE_THRESHOLD, and takes an EMPTY or CLEAN_DUE drive to
SERVICE (R21, R32, R34). -/
def Obligations.DriveErrorsCounted : Prop :=
  ∀ (s : State) (d : DriveId),
    let e := s.drive d
    let count := fun n => min 255 (e.errorCount + n)
    let due := fun n => e.draining = false ∧ e.threshold ≤ count n
    let raised := fun (n : Nat) (t : State) =>
      (t.drive d).errorCount = count n ∧
        ((t.drive d).draining = true ↔ e.draining = true ∨ e.threshold ≤ count n) ∧
        (due n → (e.state = .empty ∨ e.state = .cleanDue) →
          (t.drive d).state = .service ∧ (t.drive d).job = none) ∧
        (¬(due n ∧ (e.state = .empty ∨ e.state = .cleanDue)) → (t.drive d).state = e.state) ∧
        (due n → logged .driveThreshold .info s t) ∧ (¬due n → t.errors = s.errors)
    (s.reads d = true → ∀ c n, (c = CheckCode.correctable ∧ n = 1 ∨ c = .permanent ∧ n = 8) →
      ∃ t, exec (.check d c) s = .next t ∧
        sentFirst (.link (s.upwardLink d) (.status d (.check c))) s t ∧ raised n t ∧
        (t.drive d).occupancy = e.occupancy ∧
        unchangedBut (aftermath ++ [.errors, .accounting]) s t) ∧
    (s.reads d = true → ∀ c, (c = CheckCode.intervention ∨ c = .other) →
      ∃ t, exec (.check d c) s = .next t ∧
        sentFirst (.link (s.upwardLink d) (.status d (.check c))) s t ∧
        (t.drive d).errorCount = e.errorCount ∧ (t.drive d).draining = e.draining ∧
        (t.drive d).state = e.state ∧
        (c = .intervention → e.state = .loading → e.servicePrompt = none → deskOpen s →
          asks t .driveService (.drive d)) ∧ unchangedBut aftermath s t) ∧
    (s.reads d = true → ∀ r w n, ∃ t, exec (.usage d r w n) s = .next t ∧
      sentFirst (.link (s.upwardLink d) (.status d (.usage r w n))) s t ∧
      (t.drive d).occupancy = e.occupancy.map (fun o =>
        { o with
          blocksRead := min 16777215 (o.blocksRead + r)
          blocksWritten := min 16777215 (o.blocksWritten + w)
          correctable := min 255 (o.correctable + n) }) ∧
      (0 < n → raised n t) ∧ (n = 0 → (t.drive d).errorCount = e.errorCount) ∧
      unchangedBut (aftermath ++ [.errors, .accounting]) s t) ∧
    (s.reads d = false →
      (∀ c, exec (.check d c) s =
        .next (afterSending [.link (s.upwardLink d) (.status d (.check c))] s)) ∧
      ∀ r w n, exec (.usage d r w n) s =
        .next (afterSending [.link (s.upwardLink d) (.status d (.usage r w n))] s))

/-- A frame of the drive string with a bad CRC is discarded and logged, with nothing sent but NOTICE frames, one for the library is taken, and any
other is sent on the drive's owning link, or link 0 for an unconfigured drive. On the robot link and the
console lines a frame with a bad CRC or form is discarded and logged; a good one does what its completion,
REPLY, RECALL or REFRESH does, and a REPLY with no reply word is refused and changes nothing (R20, R124, R129,
R193). That a good frame may come by these commands is assumption log 30 and 31, the free codes of a
completion and of a REPLY are log 3, and what is taken from a completion whose payload is short or whose
position is above 1023 is log 63. -/
def Obligations.FramesForwardedOrDiscarded : Prop :=
  ∀ (s : State) (f : WireFrame),
    let discarded := fun (c : Instr) (k : ErrorKind) =>
      ∃ t, exec c s = .next t ∧ logged k .link s t ∧ sentThenNotices [] s t ∧
        unchangedBut [.errors, .notices] s t
    (∀ d : DriveId,
      (f.crcGood = false → discarded (.driveStatus d f) .badCheck) ∧
      (f.crcGood = true → f.destination = 16#8 → exec (.driveStatus d f) s = .next s) ∧
      (f.crcGood = true → f.destination ≠ 16#8 →
        ((s.drive d).configured = false → exec (.driveStatus d f) s =
          .next (afterSending [.link 0 (.status d (.other f))] s)) ∧
        ∀ l : Link, (s.drive d).configured = true → (s.drive d).owningLink = l.val →
          exec (.driveStatus d f) s = .next (afterSending [.link l (.status d (.other f))] s))) ∧
    (let c := Instr.robotLinkFrameDiscarded f
    (f.crcGood = false → discarded c .badCheck) ∧
      (f.crcGood = true → ¬goodLineForm [.completion] f → discarded c .badFrame) ∧
      (f.crcGood = true → goodLineForm [.completion] f →
        ∃ (outcome hand cause : Byte) (position : Nat), position ≤ 1023 ∧
          (∀ b0 b1 b2 b3 b4 b5 rest, f.payload = b0 :: b1 :: b2 :: b3 :: b4 :: b5 :: rest →
            outcome = b1 ∧ hand = b4 ∧ cause = b5 ∧
            (b2.toNat * 256 + b3.toNat ≤ 1023 → position = b2.toNat * 256 + b3.toNat)) ∧
          exec c s = if Config.completionFaulted outcome = true
            then exec (.completionFault f.tag.toNat position (Config.faultCause cause)) s
            else exec (.completionDone f.tag.toNat position (Config.handLoaded hand)) s)) ∧
    ∀ k : Console, let c := Instr.consoleFrameDiscarded k f
      let kinds : List FrameKind := [.reply, .recall, .refresh]
      (f.crcGood = false → discarded c .badCheck) ∧
        (f.crcGood = true → ¬goodLineForm kinds f → discarded c .badFrame) ∧
        (f.crcGood = true → goodLineForm kinds f →
          (f.kindName = .recall → exec c s = exec (.recall k) s) ∧
          (f.kindName = .refresh → exec c s = exec (.refresh k) s) ∧
          (f.kindName = .reply →
            let n := (Config.replyNumber f.payload).toNat
            let result : ReplyResult :=
              if s.prompt? n = none then .noSuchPrompt
              else if n ∈ (s.console k).area then .notAllowed else .notShownHere
            exec c s = match Config.replyWord f.payload with
              | some w => exec (replyCommand k n w) s
              | none => .next (afterSending [.console k (.replyResult (some n) result)] s)))

/-! ### The link intake -/

/-- An arriving frame with a bad CRC is logged and not answered, with nothing sent but NOTICE frames; with a bad
form it is answered BAD_FRAME and logged; a drive command is sent down the string, or answered MOUNT_PENDING while its drive is RESERVED or
LOADING; a library frame is placed in the intake queue, opens, grows or completes a train, or is answered
BUSY. A frame that is not the next part of the train present discards it, answered BAD_FRAME under the train's
own tag and kind, and is then judged as if no train were present (R19, R30, R181, R182, R183). That the
BAD_FRAME of a broken train, of a stray part and of a payload of no allowed length is logged is assumption
log 28, and that the train's answer, entry and notice come before the answer to the frame that broke it is
assumption log 72, both the model's choice. -/
def Obligations.LinkFrameTaken : Prop :=
  ∀ (s : State) (l : Link) (f : WireFrame),
    let tag := f.tag.toNat
    let kind := f.kindName
    let arrives := exec (.linkFrameArrival l f) s
    (f.crcGood = false → ∃ t, arrives = .next t ∧ logged .badCheck .link s t ∧
      sentThenNotices [] s t ∧ unchangedBut [.errors, .notices] s t) ∧
    (f.crcGood = true → ¬goodForm f → ∃ t, arrives = .next t ∧
      sentThenNotices [response l tag kind .badFrame] s t ∧ logged .badFrame .link s t ∧
      unchangedBut [.errors, .notices] s t) ∧
    (f.crcGood = true → goodForm f →
      (∀ d : DriveId, f.destination.toNat = d.val →
        let waits := s.reads d = true ∧ ((s.drive d).state = .reserved ∨ (s.drive d).state = .loading)
        (waits → arrives = .next (afterSending [.link l (.mountPending tag d)] s)) ∧
        (¬waits → ∃ t, arrives = .next t ∧ t.sent = s.sent ++ [.string (.command f)] ∧
          t.drive d = { s.drive d with
            state := if s.reads d = true ∧ kind = .rewindUnload ∧ (s.drive d).state = .occupied
              then .unloading else (s.drive d).state } ∧
          (∀ d', d' ≠ d → t.drive d' = s.drive d') ∧ unchangedBut [.drives] s t)) ∧
      (f.destination.toNat = 16 →
        let i := s.intake.get l
        let becomes := fun i' : LinkState => ∃ t, arrives = .next t ∧ t.intake.get l = i' ∧
          (∀ k, k ≠ l → t.intake.get k = s.intake.get k) ∧ unchangedBut [.intake] s t ∧ t.sent = s.sent
        (i.train = none → f.train = 17#8 →
          (payloadLengthGood kind f.payload.length = true →
            (i.queue.length < 8 → becomes
              { i with queue := i.queue ++ [{ kind := kind, tag := tag, payload := f.payload }] }) ∧
            (8 ≤ i.queue.length → ∃ t, arrives = .next t ∧
              sentThenNotices [response l tag kind .busy] s t ∧ logged .intakeFull .link s t ∧
              unchangedBut [.errors, .notices] s t)) ∧
          (payloadLengthGood kind f.payload.length = false → ∃ t, arrives = .next t ∧
            sentThenNotices [response l tag kind .badFrame] s t ∧ logged .badFrame .link s t ∧
            unchangedBut [.errors, .notices] s t)) ∧
        (i.train = none → f.train.toNat % 16 = 1 → 1 < f.train.toNat / 16 →
          (let opened : PartialTrain :=
            { kind := kind, tag := tag, total := f.train.toNat / 16, taken := 1, payload := f.payload }
          becomes { i with train := some opened })) ∧
        (i.train = none → f.train.toNat % 16 ≠ 1 → ∃ t, arrives = .next t ∧
          sentThenNotices [response l tag kind .badFrame] s t ∧ logged .badFrame .link s t ∧
          unchangedBut [.errors, .notices] s t) ∧
        ∀ p : PartialTrain, i.train = some p →
          let next := kind = p.kind ∧ tag = p.tag ∧ f.train.toNat / 16 = p.total ∧
            f.train.toNat % 16 = p.taken + 1
          let whole := p.payload ++ f.payload
          let refusedWhole := fun (r : Result) (k : ErrorKind) => ∃ t, arrives = .next t ∧
            sentThenNotices [response l tag kind r] s t ∧ logged k .link s t ∧
            t.intake.get l = { i with train := none } ∧
            (∀ k, k ≠ l → t.intake.get k = s.intake.get k) ∧
            unchangedBut [.intake, .errors, .notices] s t
          (¬next → ∃ u, sentThenNotices [response l p.tag p.kind .badFrame] s u ∧ logged .badFrame .link s u ∧
            u.intake.get l = { i with train := none } ∧
            (∀ k, k ≠ l → u.intake.get k = s.intake.get k) ∧
            unchangedBut [.intake, .errors, .notices] s u ∧ arrives = exec (.linkFrameArrival l f) u) ∧
          (next → p.taken + 1 = p.total → payloadLengthGood kind whole.length = false →
            refusedWhole .badFrame .badFrame) ∧
          (next → p.taken + 1 = p.total → payloadLengthGood kind whole.length = true →
            8 ≤ i.queue.length → refusedWhole .busy .intakeFull) ∧
          (next → p.taken + 1 < p.total →
            (let grown : PartialTrain :=
              { p with taken := p.taken + 1, payload := whole }
            becomes { i with train := some grown })) ∧
          (next → p.taken + 1 = p.total → i.queue.length < 8 →
            payloadLengthGood kind whole.length = true → becomes
              { i with
                train := none
                queue := i.queue ++ [{ kind := kind, tag := tag, payload := whole }] })))

/-! ### The arms -/

/-- The DONE of an order moves the reel and the job: a FETCH, PULL, RING_TAKE or HATCH_TAKE brings it into the
hand and the job goes on to its next leg; a DEMOUNT's STOW puts it into its cell with DEMOUNT_COMPLETE; a
MOUNT's LOAD into the drive, which is LOADING with its load timer started; a RING_PUT into the ring bay, with
the job AT_RING and its ring to be changed, the drive of a ring removal free for a new mount; an EJECT's
HATCH_PUT into the hatch bay, with MOVE_COMPLETE and its home SHELF, or left when the cell was found occupied.
A bay taken from is free, or already promised again (R4, R26, R33, R49, R70, R73, R74, R82, R96, R99, R100,
R103). That the drive's job field is let go at that RING_PUT is assumption log 51. -/
def Obligations.OrderDone : Prop :=
  ∀ (s : State) (x : ArmId) (tag p n v : Nat) (hand : Bool) (j : Job) (e : Volume),
    worksFor s x n j → s.volume? v = some e → j.state = .assigned →
    (∀ c, flies s x tag (.fetch c) → s.homedAt c = some v → e.location = .cell → j.kind = .mount →
      j.drive ≠ none → j.cancelled = false → s.locatedAt (.arm x) = none →
      ∃ t, exec (.completionDone tag p hand) s = .next t ∧ (t.arm x).hand = .loaded (some v) ∧
        (t.arm x).position = some p ∧ (t.arm x).lastKnown = p ∧
        t.volume? v = some { e with location := .arm x } ∧
        (∀ u, u ≠ v → t.volume? u = s.volume? u) ∧
        t.job? n = some { j with leg := j.leg + 1, retryUsed := false } ∧
        unchangedBut (aftermath ++ [.map]) s t) ∧
    (∀ c, flies s x tag (.stow c) → (s.arm x).hand = .loaded (some v) → j.kind = .demount →
      j.cancelled = false →
      ∃ t, exec (.completionDone tag p hand) s = .next t ∧ (t.arm x).hand = .empty ∧
        t.volume? v = some { e with location := .cell } ∧
        (∀ u, u ≠ v → t.volume? u = s.volume? u) ∧ toldOrigin n j .demountComplete s t ∧
        unchangedBut (aftermath ++ [.map, .accounting]) s t) ∧
    (∀ d, flies s x tag (.load d) → (s.arm x).hand = .loaded (some v) → j.kind = .mount →
      (s.drive d).state = .reserved → (s.drive d).job = some n → s.locatedAt (.drive d) = none →
      ∃ t j', exec (.completionDone tag p hand) s = .next t ∧ (t.arm x).hand = .empty ∧
        t.volume? v = some { e with location := .drive d } ∧
        (∀ u, u ≠ v → t.volume? u = s.volume? u) ∧
        t.drive d = { s.drive d with
          state := .loading, loadTimer := .running (64 * (2 ^ s.policy.loadTimeout * 4)) } ∧
        t.job? n = some j' ∧ j'.state = .loading ∧ j'.arm = none ∧ j'.leg = j.leg + 1 ∧
        unchangedBut (aftermath ++ [.map]) s t) ∧
    (let taken := fun (t : State) (j' : Job) => (t.arm x).hand = .loaded (some v) ∧
      (t.arm x).position = some p ∧ t.volume? v = some { e with location := .arm x } ∧
      (∀ u, u ≠ v → t.volume? u = s.volume? u) ∧
      t.job? n = some { j' with leg := j.leg + 1, retryUsed := false } ∧
      unchangedBut (aftermath ++ [.map]) s t
    j.cancelled = false → s.locatedAt (.arm x) = none →
      (∀ d, flies s x tag (.pull d) → s.locatedAt (.drive d) = some v → j.kind = .demount →
        (s.drive d).state = .awaitingPull → (s.drive d).draining = false → notDue (s.drive d) →
        ∃ t, exec (.completionDone tag p hand) s = .next t ∧ taken t j ∧
          (t.drive d).state = .empty ∧ (t.drive d).job = (s.drive d).job) ∧
      (∀ b, flies s x tag (.ringTake b) → s.station.ring.get b = .holding v (some (j.ref n)) →
        (j.kind = .mount → j.drive ≠ none) →
        ∃ t, exec (.completionDone tag p hand) s = .next t ∧ taken t { j with ringBay := none } ∧
          (t.station.ring.get b = .free ∨ ∃ r, t.station.ring.get b = .reserved r)) ∧
      ∀ b, flies s x tag (.hatchTake b) → s.station.hatch.get b = .holding v (some (j.ref n)) →
        j.kind = .enter →
        ∃ t, exec (.completionDone tag p hand) s = .next t ∧ taken t { j with hatchBay := none } ∧
          (t.station.hatch.get b = .free ∨ ∃ r, t.station.hatch.get b = .reserved r)) ∧
    (let put := fun (t : State) (e' : Volume) => (t.arm x).hand = .empty ∧ (t.arm x).position = some p ∧
      t.volume? v = some e' ∧ ∀ u, u ≠ v → t.volume? u = s.volume? u
    (s.arm x).hand = .loaded (some v) → j.cancelled = false →
      (∀ b, flies s x tag (.ringPut b) → j.legs[j.leg]? = some (.ringPut b) →
        (j.kind = .mount ∧ j.drive ≠ none ∨ j.kind = .demount) → j.returning = false →
        s.locatedAt (.ring b) = none →
        ∃ t j', exec (.completionDone tag p hand) s = .next t ∧ put t { e with location := .ring b } ∧
          t.station.ring.get b = .holding v (some (j.ref n)) ∧ t.job? n = some j' ∧
          j'.state = .atRing ∧ j'.arm = none ∧ j'.ringBay = some b ∧ j'.leg = j.leg + 1 ∧
          (deskOpen s →
            asks t (if j.kind = .mount then .fitRing else .removeRing) (.job (j.ref n))) ∧
          (∀ d, j.kind = .demount → j.drive = some d → (s.drive d).state = .empty →
            (s.drive d).job = some n → (t.drive d).state = .empty ∧ (t.drive d).job = none) ∧
          unchangedBut (aftermath ++ [.map]) s t) ∧
      ∀ b, flies s x tag (.hatchPut b) → j.kind = .eject → s.locatedAt (.hatch b) = none →
        (j.disposal = .none ∨ ∃ c, j.disposal = .stowFault c) →
        ∃ t, exec (.completionDone tag p hand) s = .next t ∧
          put t { e with
            location := .hatch b, home := if j.disposal = .none then .shelf else e.home } ∧
          t.station.hatch.get b = .holding v none ∧ toldOrigin n j .moveComplete s t ∧
          (asks t .takeFromHatch (.hatch b) ∨
            ∃ w ∈ t.desk.owed, w.kind = .takeFromHatch ∧ w.owner = .hatch b) ∧
          unchangedBut (aftermath ++ [.map, .accounting]) s t)

/-- In library homing the DONE of the homing's own HOME that finds an arm without a job, and without a YIELD
held, empty makes it IDLE on the single point of its position; when the other arm is settled too, the mode
becomes the homing target. The DONE of a YIELD leaves its arm IDLE where it stands, unless it is at once given
a run, and the arm that waited for it claims its span and is sent its order. A completion that names no order
in flight is logged, late when its tag is one that timed out, and changes nothing (R73, R76, R77, R79, R93,
R173). -/
def Obligations.HomeDoneOrUnmatched : Prop :=
  ∀ (s : State) (tag p : Nat),
    (∀ (x : ArmId) (g : Governed), s.mode = .homing g → (s.arm x).state = .homing →
      flies s x tag .home → (s.arm x).homeDue = false → (s.arm x).job = none →
      (s.arm x).interrupted = none → (∀ q, (s.arm x).nextOrder ≠ some (.yieldTo q)) →
      ∃ t, exec (.completionDone tag p false) s = .next t ∧ (t.arm x).hand = .empty ∧
        (t.arm x).position = some p ∧ (t.arm x).lastKnown = p ∧
        ((s.arm (otherArm x)).isSettled = false → (t.arm x).state = .idle ∧
          (t.arm x).claim = some { low := p, high := p } ∧ (t.arm x).inFlight = none ∧
          t.control = s.control) ∧
        ((s.arm (otherArm x)).isSettled = true → g ≠ .quiescing → t.mode = g.mode) ∧
        unchangedBut aftermath s t) ∧
    (∀ (x : ArmId) (q n v : Nat) (j : Job) (e : Volume) (o : Order) (need : Span),
      let y := otherArm x
      flies s x tag (.yieldTo q) → (s.arm x).state = .moving → (s.arm x).job = none →
      (s.arm x).nextOrder = none → s.mode.sendsRuns = true → worksFor s y n j →
      j.state = .assigned → j.cancelled = false →
      (j.drive = none → j.kind = .eject ∨ j.kind = .enter) → j.volume = some v → s.volume? v = some e →
      e.location = .cell → (s.arm y).state = .moving → (s.arm y).inFlight = none →
      (s.arm y).nextOrder = some o → j.currentOrder = some o → (s.arm y).hand.isEmpty = o.isTake →
      s.neededSpan y j.run j.volume = need →
      (match x with
        | .a => p + s.map.separation ≤ need.low
        | .b => need.high + s.map.separation ≤ p) →
      ∃ t next, exec (.completionDone tag p false) s = .next t ∧ (t.arm x).hand = (s.arm x).hand ∧
        (t.arm x).position = some p ∧ (t.arm x).lastKnown = p ∧
        ((∀ k ∈ s.work.jobs, k.2.state ≠ .waiting) → (s.arm x).hand = .empty →
          (t.arm x).state = .idle ∧ (t.arm x).claim = some { low := p, high := p }) ∧
        (t.arm y).claim = some need ∧ (t.arm y).inFlight = some { tag := next, order := o } ∧
        sentAmong (.robot (.order y next o (s.orderPosition y o))) s t ∧ t.job? n = some j ∧
        unchangedBut aftermath s t) ∧
    ((∀ x f, (s.arm x).inFlight = some f → f.tag ≠ tag) →
      ∀ kind, (kind = ErrorKind.lateCompletion ∧ (∃ x, (s.arm x).lastTimedOut = some tag) ∨
        kind = .unknownCompletion ∧ ∀ x, (s.arm x).lastTimedOut ≠ some tag) →
      (∀ hand, ∃ t, exec (.completionDone tag p hand) s = .next t ∧ logged kind .link s t ∧
        sentThenNotices [] s t ∧ unchangedBut [.errors, .notices] s t) ∧
      ∀ cause, ∃ t, exec (.completionFault tag p cause) s = .next t ∧ logged kind .link s t ∧
        sentThenNotices [] s t ∧ unchangedBut [.errors, .notices] s t)

/-- The DONE of a rehoming HOME judges the interrupted order by the hand it reports. A FETCH with the hand LOADED,
and a STOW or LOAD with it EMPTY, are done, as at their own DONE: the volume is in the hand and the leg advances;
it is in its cell and the DEMOUNT ends DEMOUNT_COMPLETE; it is at the drive, which is LOADING with its load timer
started. A take with the hand EMPTY and a put with it LOADED move nothing and are to be sent again: retry used is
set, and the order is sent, or kept as the arm's next. With retry used set the arm is disabled, logged ARM_DISABLED,
with an ARM_FAULT prompt: with the hand LOADED its job is HELD ARM_LOST and keeps the arm, and with the hand EMPTY it
gives the arm back and waits, with retry used clear, for its next run (R26, R49, R86, R87). -/
def Obligations.RehomingJudged : Prop :=
  ∀ (s : State) (x : ArmId) (tag p n v : Nat) (restored : Bool) (j : Job) (e : Volume) (o : Order)
    (h : Interruption),
    flies s x tag .home → (s.arm x).state = .rehoming restored → worksFor s x n j → j.state = .assigned →
    j.cancelled = false → (j.drive = none → j.kind = .eject ∨ j.kind = .enter) → j.volume = some v →
    s.volume? v = some e → j.currentOrder = some o → (s.arm x).interrupted = some { order := o, how := h } →
    let homes := fun (loaded : Bool) (t : State) => exec (.completionDone tag p loaded) s = .next t ∧
      (t.arm x).position = some p ∧ (t.arm x).lastKnown = p ∧ (t.arm x).interrupted = none
    let moved := fun (t : State) (place : Location) => t.volume? v = some { e with location := place } ∧
      ∀ u, u ≠ v → t.volume? u = s.volume? u
    (∀ c, o = .fetch c → s.homedAt c = some v → e.location = .cell → s.locatedAt (.arm x) = none →
      ∃ t, homes true t ∧ (t.arm x).hand = .loaded (some v) ∧ (t.arm x).state = .moving ∧
        moved t (.arm x) ∧ t.job? n = some { j with leg := j.leg + 1, retryUsed := false } ∧
        unchangedBut (aftermath ++ [.map]) s t) ∧
    (∀ c, o = .stow c → (s.arm x).hand = .loaded (some v) → j.kind = .demount →
      ∃ t, homes false t ∧ (t.arm x).hand = .empty ∧ moved t .cell ∧
        toldOrigin n j .demountComplete s t ∧ unchangedBut (aftermath ++ [.map, .accounting]) s t) ∧
    (∀ d, o = .load d → (s.arm x).hand = .loaded (some v) → j.kind = .mount →
      (s.drive d).state = .reserved → (s.drive d).job = some n → s.locatedAt (.drive d) = none →
      ∃ t j', homes false t ∧ (t.arm x).hand = .empty ∧ moved t (.drive d) ∧
        t.drive d = { s.drive d with
          state := .loading, loadTimer := .running (64 * (2 ^ s.policy.loadTimeout * 4)) } ∧
        t.job? n = some j' ∧ j'.state = .loading ∧ j'.arm = none ∧
        unchangedBut (aftermath ++ [.map]) s t) ∧
    (h = .faulted → (∀ c, o = .fetch c → e.location = .cell) →
      (o.isTake = false → (s.arm x).hand = .loaded (some v)) →
      let loaded := !o.isTake
      let hand : Hand := if o.isTake = true then .empty else .loaded (some v)
      (j.retryUsed = false → ∃ t, homes loaded t ∧ (t.arm x).hand = hand ∧
        (t.arm x).state = .moving ∧ t.map = s.map ∧ t.job? n = some { j with retryUsed := true } ∧
        ((t.arm x).nextOrder = some o ∨ ∃ next, (t.arm x).inFlight = some { tag := next, order := o } ∧
          sentAmong (.robot (.order x next o (s.orderPosition x o))) s t) ∧
        unchangedBut aftermath s t) ∧
      (j.retryUsed = true → ∃ t j', homes loaded t ∧ (t.arm x).hand = hand ∧
        (t.arm x).state = .disabled ∧ t.map = s.map ∧ logged .armDisabled .library s t ∧
        (deskOpen s → asks t .armFault (.arm x)) ∧ t.job? n = some j' ∧
        (o.isTake = false → j'.state = .held .armLost ∧ j'.arm = some x ∧ j'.legs = j.legs ∧ j'.leg = j.leg) ∧
        (o.isTake = true → j'.retryUsed = false ∧
          (j'.state = .waiting ∧ j'.arm = none ∨ j'.state = .assigned ∧ j'.arm = some (otherArm x))) ∧
        unchangedBut (aftermath ++ [.errors]) s t))

/-- A FETCH that misgrips is sent once more under a new tag; when that misgrips too, the volume is suspect and
the job HELD REEL_CHECK with its CHECK_REEL. An empty cell makes the volume UNCERTAIN and the job HELD
UNCERTAIN. A BLOCKED order is kept as interrupted and the arm is rehomed; a BLOCKED FETCH of a cancelled job ends
it CANCELLED, and one of a volume that a READY has moved to a drive fails it VOLUME_IN_USE (R55, R64, R68, R80,
R81, R85). That the job is settled at the fault itself, and not at the HOME that follows, is assumption log 11,
the model's choice. -/
def Obligations.MotionFaults : Prop :=
  ∀ (s : State) (x : ArmId) (tag p n v : Nat) (j : Job) (e : Volume) (c : Cell),
    worksFor s x n j → j.state = .assigned →
    (flies s x tag (.fetch c) → j.kind = .mount → j.drive ≠ none → j.cancelled = false →
      j.volume = some v → s.volume? v = some e → e.location = .cell → (s.arm x).state = .moving →
      (s.arm x).hand = .empty →
      (s.mode.sendsRuns = true → j.retryUsed = false →
        ∃ t next, exec (.completionFault tag p .misgrip) s = .next t ∧
          (t.arm x).inFlight = some { tag := next, order := .fetch c } ∧
          sentAmong (.robot (.order x next (.fetch c) (s.cellPosition c))) s t ∧
          t.job? n = some { j with retryUsed := true } ∧ logged .misgrip .job s t ∧
          unchangedBut (aftermath ++ [.errors]) s t) ∧
      (j.retryUsed = true →
        ∃ t j', exec (.completionFault tag p .misgrip) s = .next t ∧
          t.volume? v = some { e with suspect := true } ∧ t.job? n = some j' ∧
          j'.state = .held .reelCheck ∧ j'.arm = none ∧ logged .misgrip .job s t ∧
          (deskOpen s → asks t .checkReel (.job (j.ref n))) ∧
          unchangedBut (aftermath ++ [.map, .errors]) s t) ∧
      ∃ t j', exec (.completionFault tag p .noReel) s = .next t ∧
        t.volume? v = some { e with location := .uncertain } ∧ t.job? n = some j' ∧
        j'.state = .held .uncertain ∧ j'.arm = none ∧ logged .noReel .job s t ∧
        (deskOpen s → asks t .verifyVolume (.job (j.ref n))) ∧
        unchangedBut (aftermath ++ [.map, .errors]) s t) ∧
    ∀ o, flies s x tag o → o ≠ .home → o.isYield = false → (s.arm x).state = .moving →
      s.mode ≠ .configure → s.mode.isSafe = false →
      ∃ t next, exec (.completionFault tag p .blocked) s = .next t ∧
        (t.arm x).state = .rehoming false ∧
        (t.arm x).interrupted = some { order := o, how := .faulted } ∧
        (t.arm x).hand = (s.arm x).hand ∧
        (t.arm x).inFlight = some { tag := next, order := .home } ∧
        sentAmong (.robot (.order x next .home (some (railEnd x)))) s t ∧
        logged .travelBlocked .library s t ∧ unchangedBut (aftermath ++ [.errors, .accounting]) s t ∧
        (j.cancelled = false →
          (∀ u e d, j.volume = some u → s.volume? u = some e → e.location ≠ .drive d) →
          unchangedBut (aftermath ++ [.errors]) s t) ∧
        (o = .fetch c → j.legs[j.leg]? = some (.fetch c) →
          (j.cancelled = true → j.returning = false → toldOrigin n j .cancelled s t) ∧
          ∀ u e d, j.volume = some u → s.volume? u = some e → e.location = .drive d →
            j.cancelled = false → j.scratch = false →
            (j.kind = .mount → j.drive ≠ none → toldOrigin n j (.mountFailed .volumeInUse) s t) ∧
            (j.kind = .eject → toldOrigin n j (.moveFailed .volumeInUse) s t))

/-- The faults of the puts leave the reel in the hand and move no volume. A STOW, RING_PUT or HATCH_PUT that
finds its place OCCUPIED is logged CELL_OCCUPIED, the bay found occupied is HOLDING an unknown reel with a prompt
of its own, and the job goes to the lowest FREE bay, where the claim can be extended to it, or with none FREE is
HELD HATCH_FULL or RING_FULL with its arm. A LOAD REFUSED once is sent again; OCCUPIED, or REFUSED again, takes a
drive RESERVED for the job to SERVICE and turns the job home, a MOUNT with MOUNT_FAILED, and accepts no CANCEL
for it. A STOPPED order in SAFE is kept as interrupted and logged nowhere, and outside SAFE it is handled as
BLOCKED (R25, R82, R83, R84, R85, R92, R97, R101). That the mode SAFE is read for R92's open door is assumption log
36, and that the bay taken at a fault is the lowest FREE one, as R96 has it for a run, is assumption log 77, both
the model's choice. -/
def Obligations.PutsFault : Prop :=
  ∀ (s : State) (x : ArmId) (tag p n v : Nat) (j : Job) (e : Volume),
    worksFor s x n j → j.state = .assigned → j.volume = some v → s.volume? v = some e →
    (s.arm x).state = .moving → (s.arm x).hand = .loaded (some v) →
    let faults := fun (c : FaultCause) (t : State) => exec (.completionFault tag p c) s = .next t
    let kept := fun t : State => (t.arm x).hand = .loaded (some v) ∧ t.map = s.map ∧
      (t.arm x).job = some (j.ref n) ∧ (t.arm x).state = .moving ∧
      unchangedBut (aftermath ++ [.errors]) s t
    let held := fun (t : State) (r : HoldReason) => ∃ j', t.job? n = some j' ∧ j'.state = .held r ∧
      j'.arm = some x ∧ (t.arm x).inFlight = none
    let reaches := fun q : Nat => ∃ r, (s.arm x).claim = some r ∧
      let positions := p :: q :: ((s.homeCell v).bind s.cellPosition).toList
      ∀ w ∈ positions, r.low ≤ w ∧ w ≤ r.high
    let sends := fun (t : State) (o : Order) => ∃ next,
      (t.arm x).inFlight = some { tag := next, order := o } ∧
        sentAmong (.robot (.order x next o (s.orderPosition x o))) s t
    (∀ c, flies s x tag (.stow c) → ∃ t, faults .occupied t ∧ kept t ∧ logged .cellOccupied .job s t ∧
      (s.freeHatches = [] → held t .hatchFull) ∧
      ∀ b rest q, s.freeHatches = b :: rest → s.map.hatchPositions.get b = some q → reaches q →
        t.station.hatch.get b = .reserved (j.ref n) ∧ (∃ j', t.job? n = some j' ∧ j'.hatchBay = some b ∧
          j'.currentOrder = some (.hatchPut b) ∧ j'.state = .assigned) ∧
        (s.mode.sendsRuns = true → sends t (.hatchPut b))) ∧
    (∀ b, flies s x tag (.hatchPut b) → j.currentOrder = some (.hatchPut b) →
      ∃ t, faults .occupied t ∧ kept t ∧ logged .cellOccupied .job s t ∧
        t.station.hatch.get b = .unknown ∧
        (asks t .takeFromHatch (.hatch b) ∨
          ∃ w ∈ t.desk.owed, w.kind = .takeFromHatch ∧ w.owner = .hatch b) ∧
        ((∀ b' ∈ s.freeHatches, b' = b) → held t .hatchFull) ∧
        ∀ b' rest q, s.freeHatches = b' :: rest → b' ≠ b → s.map.hatchPositions.get b' = some q →
          reaches q → t.station.hatch.get b' = .reserved (j.ref n) ∧
            (s.mode.sendsRuns = true → sends t (.hatchPut b'))) ∧
    (∀ b, flies s x tag (.ringPut b) → j.currentOrder = some (.ringPut b) →
      ∃ t, faults .occupied t ∧ kept t ∧ logged .cellOccupied .job s t ∧
        t.station.ring.get b = .unknown ∧
        (asks t .checkReel (.library b) ∨
          ∃ w ∈ t.desk.owed, w.kind = .checkReel ∧ w.owner = .library b) ∧
        ((∀ b' ∈ s.freeRings, b' = b) → held t .ringFull) ∧
        ∀ b' rest q, s.freeRings = b' :: rest → b' ≠ b → s.map.ringPositions.get b' = some q →
          reaches q → t.station.ring.get b' = .reserved (j.ref n) ∧
            (s.mode.sendsRuns = true → sends t (.ringPut b'))) ∧
    (∀ d, flies s x tag (.load d) → j.currentOrder = some (.load d) →
      (j.kind = .clean → j.drive ≠ none) →
      let givenUp := fun (t : State) (why : MountFailure) => kept t ∧ logged .driveRefused .job s t ∧
        ((s.drive d).state = .reserved → (s.drive d).job = some n →
          (t.drive d).state = .service ∧ (t.drive d).job = none) ∧
        (j.kind = .mount → j.cancelled = false → toldOrigin n j (.mountFailed why) s t) ∧
        ∃ j', t.job? n = some j' ∧ j'.returning = true ∧ j'.legs = [s.homeLeg j.volume] ∧
          j'.state = .assigned ∧ j'.cancelled = j.cancelled
      (∃ t, faults .occupied t ∧ givenUp t .driveOccupied) ∧
      (j.retryUsed = true → ∃ t, faults .refused t ∧ givenUp t .driveRefused) ∧
      (j.retryUsed = false → ∃ t, faults .refused t ∧ kept t ∧ logged .driveRefused .job s t ∧
        t.job? n = some { j with retryUsed := true } ∧
        (s.mode.sendsRuns = true → t.drives = s.drives ∧ sends t (.load d)))) ∧
    ∀ o, flies s x tag o → o ≠ .home → o.isYield = false → o.isTake = false →
      (∀ c, j.legs[j.leg]? ≠ some (.fetch c)) →
      (s.mode.isSafe = true → ∃ t, faults .stopped t ∧ (t.arm x).hand = .loaded (some v) ∧
        (t.arm x).interrupted = some { order := o, how := .stopped } ∧ (t.arm x).inFlight = none ∧
        (t.arm x).state = .moving ∧ t.job? n = some j ∧ t.sent = s.sent ∧ unchangedBut [.arms] s t) ∧
      (s.mode.isSafe = false → s.mode ≠ .configure → ∃ t, faults .stopped t ∧
        (t.arm x).hand = .loaded (some v) ∧
        (t.arm x).interrupted = some { order := o, how := .faulted } ∧ (t.arm x).state = .rehoming false ∧
        logged .travelBlocked .library s t)

/-- The supervision of an order that is not a HOME expires: the order is abandoned, its tag remembered, and the
arm rehomed under another tag; that of a HOME disables the arm, which posts ARM_FAULT. A load timeout fails
a mount by robot with the drive in SERVICE and puts a mount by hand to the operators again; a cleaning
timeout takes the drive to SERVICE (R26, R38, R71, R72, R85, R87). That an expiry acts while its timer runs,
and not otherwise, is assumption log 6. -/
def Obligations.SupervisionExpires : Prop :=
  ∀ s : State,
    (∀ (x : ArmId) (tag : Nat) (o : Order), (s.arm x).inFlight = some { tag := tag, order := o } →
      (s.arm x).supervision.isRunning = true → (s.arm x).state = .moving → s.mode ≠ .configure →
      s.mode.isSafe = false →
      (o ≠ .home → o.isYield = false → ∃ t next, exec (.motionTimeout x) s = .next t ∧
        (t.arm x).lastTimedOut = some tag ∧ (t.arm x).position = none ∧
        (t.arm x).state = .rehoming false ∧
        (t.arm x).interrupted = some { order := o, how := .faulted } ∧
        (t.arm x).inFlight = some { tag := next, order := .home } ∧ next ≠ tag ∧
        logged .motionTimeout .library s t ∧ unchangedBut (aftermath ++ [.errors]) s t)) ∧
    (∀ (x : ArmId) (tag : Nat), (s.arm x).inFlight = some { tag := tag, order := .home } →
      (s.arm x).supervision.isRunning = true →
      ∃ t, exec (.motionTimeout x) s = .next t ∧ (t.arm x).state = .disabled ∧
        (t.arm x).lastTimedOut = some tag ∧ (t.arm x).inFlight = none ∧
        logged .motionTimeout .library s t ∧
        (s.desk.prompts.length < 32 → asks t .armFault (.arm x)) ∧
        unchangedBut (aftermath ++ [.errors, .accounting]) s t) ∧
    (∀ (d : DriveId) (n : Nat) (j : Job), (s.drive d).state = .loading →
      (s.drive d).loadTimer.isRunning = true → (s.drive d).job = some n → s.job? n = some j →
      j.kind = .mount →
      ∃ t, exec (.loadTimeout d) s = .next t ∧ logged .loadTimeout .job s t ∧
        (t.drive d).loadTimer = .stopped ∧
        ((j.mountKind = .robot ∨ j.mountKind = .ring) → (t.drive d).state = .service ∧
          (t.drive d).job = none ∧
          (j.cancelled = false → toldOrigin n j (.mountFailed .loadTimeout) s t)) ∧
        ((j.mountKind = .manual ∨ j.mountKind = .foreign) → (t.drive d).state = .loading ∧
          (∃ j', t.job? n = some j' ∧ j'.state = .manual) ∧
          (deskOpen s → asks t .mountByHand (.job (j.ref n)))) ∧
        unchangedBut (aftermath ++ [.errors, .accounting]) s t) ∧
    (∀ d : DriveId, (s.drive d).state = .cleaning → (s.drive d).cleaningTimer.isRunning = true →
      ∃ t, exec (.cleanTimeout d) s = .next t ∧ logged .cleanTimeout .job s t ∧
        (t.drive d).state = .service ∧ (t.drive d).cleaningTimer = .stopped ∧
        (t.drive d).job = none ∧ unchangedBut (aftermath ++ [.errors, .accounting]) s t) ∧
    (∀ x, (s.arm x).supervision.isRunning = false → exec (.motionTimeout x) s = .next s) ∧
    ∀ d, ((s.drive d).loadTimer.isRunning = false → exec (.loadTimeout d) s = .next s) ∧
      ((s.drive d).cleaningTimer.isRunning = false → exec (.cleanTimeout d) s = .next s)

/-- The aging timer of a WAITING job raises its effective priority by 1 up to 3 and starts again. A reminder
counts, reminds the consoles that show the prompt, and at the policy's count escalates it to ACTION on both
consoles. The expiry of a limit closes the prompt EXPIRED, and an APPROVE_MOUNT takes the policy's default
(R56, R59, R121, R122, R123, R131). That an expiry acts while its timer runs is assumption log 6. -/
def Obligations.AgingReminderAndLimit : Prop :=
  ∀ (s : State) (n : Nat),
    (∀ j, s.job? n = some j → j.state = .waiting → j.aging.isRunning = true →
      ∃ t j', exec (.agingExpiry n) s = .next t ∧ t.job? n = some j' ∧
        j'.effective = (if j.effective < 3 then j.effective + 1 else j.effective) ∧
        (noIdleArm s → j' = { j with
          effective := j'.effective, aging := .running (64 * (2 ^ s.policy.aging * 15)) }) ∧
        unchangedBut aftermath s t) ∧
    (∀ q, s.prompt? n = some q → q.reminderTimer.isRunning = true →
      (∃ c, n ∈ (s.console c).area) →
      let count := min 7 (q.reminders + 1)
      let escalates := q.escalated = false ∧ s.policy.escalationCount ≤ count
      ∃ t q', exec (.reminder n) s = .next t ∧ t.prompt? n = some q' ∧ q'.reminders = count ∧
        (∀ c, n ∈ (s.console c).area → sentAmong (.console c (.remind n count)) s t) ∧
        (¬escalates → unchangedBut [.desk] s t ∧ q' = { q with
          reminders := count, reminderTimer := .running (64 * (2 ^ s.policy.reminder * 15)) }) ∧
        (escalates → q'.escalated = true ∧ q'.severity = .action ∧
          q'.targets = { console0 := true, console1 := true } ∧
          ((s.notice .promptEscalated).raiseEnable = true →
            sentAmong (.link s.notices.link (.notice (.promptEscalated n q.kind))) s t) ∧
          unchangedBut [.desk, .notices] s t)) ∧
    ∀ q, s.prompt? n = some q → q.limitTimer.isRunning = true →
      ∃ t, exec (.limitExpiry n) s = .next t ∧
        (∀ c, n ∈ (s.console c).area ∨ n ∈ (s.console c).deferred →
          sentAmong (.console c (.remove n .expired)) s t) ∧
        (q.kind ≠ .approveMount → unchangedBut aftermath s t) ∧
        ∀ m j, q.kind = .approveMount → q.owner = .job (j.ref m) → s.job? m = some j →
          (s.policy.approveDefault = .deny → j.cancelled = false →
            toldOrigin m j (.mountFailed .allowance) s t) ∧
          (s.policy.approveDefault = .approve → unchangedBut (aftermath ++ [.accounting]) s t ∧
            (∃ j', t.job? m = some j' ∧ j'.counted = .override) ∧
            (t.accounting.accounts.get j.account).live.overrides =
              min 65535 ((s.accounting.accounts.get j.account).live.overrides + 1))

/-! ### The operators -/

/-- A REPLY is refused NO_SUCH_PROMPT, NOT_SHOWN_HERE or NOT_ALLOWED by the first check that fails, and
changes nothing; one that passes is answered ACCEPTED before anything else, and its prompt leaves every
console that held it as ANSWERED (R124, R125, R126). -/
def Obligations.ReplyTaken : Prop :=
  ∀ (s : State) (c : Console) (n : Nat) (w : Machine.Word),
    let refused := fun r : ReplyResult => exec (replyCommand c n w) s =
      .next (afterSending [.console c (.replyResult (some n) r)] s)
    (s.prompt? n = none → refused .noSuchPrompt) ∧
    (∀ q, s.prompt? n = some q → n ∉ (s.console c).area → refused .notShownHere) ∧
    (∀ q, s.prompt? n = some q → n ∈ (s.console c).area → w ≠ .defer → w ∉ q.allowed →
      refused .notAllowed) ∧
    ∀ q, takes s c n w q → w ≠ .defer → ∃ t, exec (replyCommand c n w) s = .next t ∧
      sentFirst (.console c (.replyResult (some n) .accepted)) s t ∧
      (∀ k, n ∈ (s.console k).area ∨ n ∈ (s.console k).deferred →
        sentAmong (.console k (.remove n .answered)) s t) ∧
      unchangedBut (aftermath ++ [.map, .accounting, .errors]) s t

/-- What DONE does for a drive in SERVICE, a hatch bay and a job: the drive is EMPTY again, the reel leaves
the bay for the SHELF, a ring is IN or OUT, a placed reel stands in the hatch, a reel mounted by hand is at
its LOADING drive, and one taken out by hand is on the SHELF (R35, R99, R100, R104, R105, R106, R107). -/
def Obligations.DoneActs : Prop :=
  ∀ (s : State) (c : Console) (n : Nat) (q : Prompt), takes s c n .done q →
    ∃ t, exec (.replyDone c n) s = .next t ∧
      (∀ d, q.kind = .driveService → q.owner = .drive d → (s.drive d).state = .service →
        (t.drive d).state = .empty ∧ (t.drive d).errorCount = 0 ∧ (t.drive d).draining = false ∧
        unchangedBut aftermath s t) ∧
      (∀ b v k e, q.kind = .takeFromHatch → q.owner = .hatch b →
        s.station.hatch.get b = .holding v k → s.volume? v = some e →
        t.volume? v = some { e with location := .shelf } ∧
        (∀ u, u ≠ v → t.volume? u = s.volume? u) ∧
        (t.station.hatch.get b = .free ∨ ∃ r, t.station.hatch.get b = .reserved r) ∧
        unchangedBut (aftermath ++ [.map]) s t) ∧
      ∀ m j v e, q.owner = .job (j.ref m) → s.job? m = some j → j.volume = some v →
        s.volume? v = some e →
        (q.kind = .fitRing → t.volume? v = some { e with ring := .ringIn } ∧
          (∃ j', t.job? m = some j' ∧ (j'.state = .waiting ∨ j'.state = .assigned)) ∧
          unchangedBut (aftermath ++ [.map]) s t) ∧
        (q.kind = .removeRing → t.volume? v = some { e with ring := .ringOut } ∧
          (∃ j', t.job? m = some j' ∧ (j'.state = .waiting ∨ j'.state = .assigned)) ∧
          unchangedBut (aftermath ++ [.map]) s t) ∧
        (∀ b, q.kind = .placeInHatch → j.hatchBay = some b →
          t.volume? v = some { e with location := .hatch b } ∧
          t.station.hatch.get b = .holding v (some (j.ref m)) ∧
          ∃ j', t.job? m = some j' ∧ (j'.state = .waiting ∨ j'.state = .assigned)) ∧
        (∀ d, q.kind = .mountByHand → j.drive = some d →
          t.volume? v = some { e with location := .drive d } ∧ (t.drive d).state = .loading ∧
          (t.drive d).loadTimer = .running (64 * (2 ^ s.policy.loadTimeout * 4)) ∧
          ∃ j', t.job? m = some j' ∧ j'.state = .loading) ∧
        ∀ d, q.kind = .demountByHand → j.kind = .demount → j.cancelled = false →
          q.params.drive = some d → s.locatedAt (.drive d) = some v → j.drive = some d →
          (s.drive d).state = .awaitingPull → (s.drive d).draining = false → notDue (s.drive d) →
          (s.drive d).job = some m →
          t.volume? v = some { e with location := .shelf } ∧ (t.drive d).state = .empty ∧
          (t.drive d).job = none ∧ toldOrigin m j .demountComplete s t

/-- What the replies about a disabled arm do: RESTORED rehomes it, PARKED leaves it PARKED at its rail end, its
reel on the SHELF, and REMOVED puts the reel on the SHELF and asks again for the arm (R88, R89, R90). -/
def Obligations.ArmRepliesAct : Prop :=
  ∀ (s : State) (c : Console) (n : Nat) (q : Prompt) (x : ArmId),
    q.kind = .armFault → q.owner = .arm x → (s.arm x).state = .disabled →
    (takes s c n .restored q → (s.arm x).inFlight = none → s.mode ≠ .configure →
      s.mode.isSafe = false → ∃ t tag, exec (.replyRestored c n) s = .next t ∧
        (t.arm x).state = .rehoming true ∧ (t.arm x).job = (s.arm x).job ∧
        (t.arm x).hand = (s.arm x).hand ∧
        (t.arm x).inFlight = some { tag := tag, order := .home } ∧
        sentAmong (.robot (.order x tag .home (some (railEnd x)))) s t ∧
        unchangedBut aftermath s t) ∧
    (takes s c n .parked q → ∃ t, exec (.replyParked c n) s = .next t ∧
      (t.arm x).state = .parked ∧ (t.arm x).position = some (railEnd x) ∧
      (t.arm x).claim = some { low := railEnd x, high := railEnd x } ∧ (t.arm x).hand = .empty ∧
      (t.arm x).job = none ∧ (t.notice .armState).level = true ∧
      (∀ v e, (s.arm x).hand = .loaded (some v) → s.volume? v = some e →
        t.volume? v = some { e with location := .shelf }) ∧
      ((s.arm x).hand = .empty → t.map = s.map)) ∧
    (takes s c n .removed q → ∃ t, exec (.replyRemoved c n) s = .next t ∧
      (t.arm x).state = .disabled ∧ (t.arm x).hand = .empty ∧ (t.arm x).job = none ∧
      (asks t .armFault (.arm x) ∨ ∃ w ∈ t.desk.owed, w.kind = .armFault ∧ w.owner = .arm x) ∧
      ∀ v e, (s.arm x).hand = .loaded (some v) → s.volume? v = some e →
        t.volume? v = some { e with location := .shelf } ∧ ∀ u, u ≠ v → t.volume? u = s.volume? u)

/-- What APPROVE, DENY, CANCEL, RETRY, INCELL and OUTSIDE do for the job that owns the prompt (R54, R55, R56,
R62, R99, R105). -/
def Obligations.JobRepliesAct : Prop :=
  ∀ (s : State) (c : Console) (n m : Nat) (q : Prompt) (j : Job),
    q.owner = .job (j.ref m) → s.job? m = some j →
    let fails := fun (i : Instr) (f : Lifecycle) => ∃ t, exec i s = .next t ∧
      (j.cancelled = false → toldOrigin m j f s t)
    (takes s c n .approve q → q.kind = .approveMount → ∃ t j', exec (.replyApprove c n) s = .next t ∧
      t.job? m = some j' ∧ j'.counted = .override ∧ j'.state ≠ .held .allowance ∧
      (t.accounting.accounts.get j.account).live.overrides =
        min 65535 ((s.accounting.accounts.get j.account).live.overrides + 1) ∧
      unchangedBut (aftermath ++ [.accounting]) s t) ∧
    (takes s c n .deny q → q.kind = .approveMount →
      fails (.replyDeny c n) (.mountFailed .allowance)) ∧
    (takes s c n .cancel q →
      (q.kind = .mountByHand → fails (.replyCancel c n) (.mountFailed .operatorCancel)) ∧
      (q.kind = .placeInHatch → fails (.replyCancel c n) (.moveFailed .operatorCancel)) ∧
      (q.kind = .checkReel → j.state = .held .suspect →
        fails (.replyCancel c n) (.mountFailed .suspect)) ∧
      (q.kind = .verifyVolume → j.kind = .mount → j.scratch = false →
        fails (.replyCancel c n) (.mountFailed .uncertain)) ∧
      (q.kind = .verifyVolume → j.kind = .eject → j.scratch = false →
        fails (.replyCancel c n) (.moveFailed .uncertain)) ∧
      ∀ b, q.kind = .fitRing → j.ringBay = some b → ∃ t j', exec (.replyCancel c n) s = .next t ∧
        t.job? m = some j' ∧ j'.returning = true ∧ j'.drive = none ∧
        (j.cancelled = false → toldOrigin m j (.mountFailed .operatorCancel) s t)) ∧
    ∀ v e, j.volume = some v → s.volume? v = some e →
      (takes s c n .retry q → q.kind = .checkReel →
        (j.state = .held .suspect ∨ j.state = .held .reelCheck ∧ ∃ k, j.legs[j.leg]? = some (.fetch k)) →
        ∃ t j', exec (.replyRetry c n) s = .next t ∧ t.volume? v = some { e with suspect := false } ∧
          t.job? m = some j' ∧ j'.state ≠ .held .suspect ∧ j'.state ≠ .held .reelCheck ∧
          unchangedBut (aftermath ++ [.map, .accounting]) s t) ∧
      (takes s c n .inCell q → q.kind = .verifyVolume → ∀ k, e.home = .cell k →
        ∃ t, exec (.replyInCell c n) s = .next t ∧
          t.volume? v = some { e with location := .cell } ∧
          (∀ u, u ≠ v → t.volume? u = s.volume? u) ∧
          unchangedBut (aftermath ++ [.map, .accounting]) s t) ∧
      (takes s c n .outside q → q.kind = .verifyVolume →
        ∃ t, exec (.replyOutside c n) s = .next t ∧
          t.volume? v = some { e with location := .shelf } ∧
          (∀ u, u ≠ v → t.volume? u = s.volume? u) ∧
          (j.kind = .eject → j.scratch = false → j.cancelled = false →
            toldOrigin m j (.moveFailed .notInLibrary) s t))

/-- What the replies do for a reel that stands in a bay. RETRY of the library's CHECK_REEL makes the ring bay FREE
and CANCEL leaves it HOLDING an unknown reel; DONE of a TAKE_FROM_HATCH for an unknown reel makes the hatch bay
FREE. Of a job HELD REEL_CHECK at a RING_TAKE or HATCH_TAKE, RETRY has the job wait with the same take and CANCEL
gives it up: the reel of a ring bay is on the SHELF and the bay FREE, a MOUNT goes on as a mount by hand, and a
DEMOUNT ends DEMOUNT_COMPLETE; the reel of a hatch bay stays there for TAKE_FROM_HATCH, and an ENTER ends
MOVE_FAILED REEL_CHECK. A bay made FREE may at once be promised again (R54, R97, R101, R102, R104). -/
def Obligations.BayRepliesAct : Prop :=
  ∀ (s : State) (c : Console) (n : Nat) (q : Prompt),
    let ringFreed := fun (t : State) (b : RingBay) =>
      t.station.ring.get b = .free ∨ ∃ r, t.station.ring.get b = .reserved r
    let hatchFreed := fun (t : State) (b : HatchBay) =>
      t.station.hatch.get b = .free ∨ ∃ r, t.station.hatch.get b = .reserved r
    (∀ b, q.kind = .checkReel → q.owner = .library b → s.station.ring.get b = .unknown →
      (takes s c n .retry q → ∃ t, exec (.replyRetry c n) s = .next t ∧ ringFreed t b ∧
        unchangedBut aftermath s t) ∧
      (takes s c n .cancel q → ∃ t, exec (.replyCancel c n) s = .next t ∧
        t.station.ring.get b = .unknown ∧ unchangedBut aftermath s t)) ∧
    (∀ b, q.kind = .takeFromHatch → q.owner = .hatch b → s.station.hatch.get b = .unknown →
      takes s c n .done q → ∃ t, exec (.replyDone c n) s = .next t ∧ hatchFreed t b ∧
        unchangedBut aftermath s t) ∧
    ∀ m j v e, q.kind = .checkReel → q.owner = .job (j.ref m) → s.job? m = some j →
      j.state = .held .reelCheck → j.arm = none → s.volume? v = some e → j.volume = some v →
      (takes s c n .retry q → ∀ o, j.currentOrder = some o →
        (∃ b, o = .ringTake b) ∨ (∃ b, o = .hatchTake b) →
        ∃ t j', exec (.replyRetry c n) s = .next t ∧ t.job? m = some j' ∧
          (j'.state = .waiting ∨ j'.state = .assigned) ∧ j'.retryUsed = false ∧
          j'.currentOrder = some o ∧ unchangedBut aftermath s t) ∧
      (takes s c n .cancel q →
        (∀ b, j.legs[j.leg]? = some (.ringTake b) →
          s.station.ring.get b = .holding v (some (j.ref m)) → j.ringBay = some b →
          ∃ t, exec (.replyCancel c n) s = .next t ∧ t.volume? v = some { e with location := .shelf } ∧
            (∀ u, u ≠ v → t.volume? u = s.volume? u) ∧ ringFreed t b ∧
            (j.kind = .demount → j.cancelled = false → toldOrigin m j .demountComplete s t) ∧
            (j.cancelled = true → toldOrigin m j .cancelled s t) ∧
            (j.kind = .mount → j.cancelled = false → j.returning = false → j.counted ≠ .none →
              ∃ j', t.job? m = some j' ∧ j'.state = .manual ∧ j'.mountKind = .manual ∧
                (deskOpen s → asks t .mountByHand (.job (j.ref m))))) ∧
        ∀ b, j.legs[j.leg]? = some (.hatchTake b) → j.kind = .enter →
          s.station.hatch.get b = .holding v (some (j.ref m)) →
          ∃ t, exec (.replyCancel c n) s = .next t ∧ t.map = s.map ∧
            t.station.hatch.get b = .holding v none ∧
            (asks t .takeFromHatch (.hatch b) ∨
              ∃ w ∈ t.desk.owed, w.kind = .takeFromHatch ∧ w.owner = .hatch b) ∧
            (j.cancelled = false → toldOrigin m j (.moveFailed .reelCheck) s t))

/-- DEFER moves a shown prompt to the top of the console's defer list with its defer timer started, or is
answered LIST_FULL. RECALL, and the expiry of a defer timer, bring a deferred prompt back to an area with
room, or in place of the lowest-ranked prompt, the most recently posted of the lowest severity, when that is
of lower severity, and otherwise leave it deferred (R115, R117, R118, R119, R120, R131). That the AREA_FULL of a
RECALL carries the number of the prompt is assumption log 57, and that an expiry acts while its timer runs is
assumption log 6. -/
def Obligations.DeferAndRecall : Prop :=
  ∀ (s : State) (c : Console),
    let defers := Timer.running (64 * (2 ^ s.policy.deferral * 60))
    let result := fun (n : Option Nat) (r : ReplyResult) => Sent.console c (.replyResult n r)
    (∀ n q, s.prompt? n = some q → n ∈ (s.console c).area →
      ((s.console c).deferred.length < 4 → ∃ t q', exec (.replyDefer c n) s = .next t ∧
        sentFirst (result (some n) .accepted) s t ∧
        (t.console c).deferred = n :: (s.console c).deferred ∧ n ∉ (t.console c).area ∧
        t.prompt? n = some q' ∧ q'.deferTimers.get c = defers ∧ unchangedBut [.desk] s t) ∧
      (4 ≤ (s.console c).deferred.length → exec (.replyDefer c n) s =
        .next (afterSending [result (some n) .listFull] s))) ∧
    ((s.console c).deferred = [] → exec (.recall c) s =
      .next (afterSending [result none .nothingDeferred] s)) ∧
    ∀ n q, s.prompt? n = some q →
      let room := (s.console c).area.length < 4
      let above := fun p : Prompt => severityRank p.severity < severityRank q.severity
      let returns := fun t : State => n ∉ (t.console c).deferred ∧ sentAmong (showing c q) s t ∧
        unchangedBut [.desk] s t
      let displaces := fun t : State => ∃ earlier p later,
        s.areaPrompts c = earlier ++ p :: later ∧ above p ∧
        (∀ p' ∈ earlier, severityRank p.severity ≤ severityRank p'.severity) ∧
        (∀ p' ∈ later, severityRank p.severity < severityRank p'.severity) ∧
        sentAmong (.console c (.remove p.number .displaced)) s t
      let stays := ¬room ∧ ∀ p ∈ s.areaPrompts c, ¬above p
      (∀ rest, (s.console c).deferred = n :: rest →
        (room → ∃ t, exec (.recall c) s = .next t ∧
          sentFirst (result (some n) .accepted) s t ∧ returns t) ∧
        (¬room → (∃ p ∈ s.areaPrompts c, above p) → ∃ t, exec (.recall c) s = .next t ∧
          sentFirst (result (some n) .accepted) s t ∧ returns t ∧ displaces t) ∧
        (stays → exec (.recall c) s = .next (afterSending [result (some n) .areaFull] s))) ∧
      (n ∈ (s.console c).deferred → (q.deferTimers.get c).isRunning = true →
        (room → ∃ t, exec (.deferExpiry c n) s = .next t ∧ returns t) ∧
        (¬room → (∃ p ∈ s.areaPrompts c, above p) →
          ∃ t, exec (.deferExpiry c n) s = .next t ∧ returns t ∧ displaces t) ∧
        (stays → ∃ t, exec (.deferExpiry c n) s = .next t ∧ t.sent = s.sent ∧
          t.prompt? n = some { q with deferTimers := q.deferTimers.set c defers } ∧
          t.desk.consoles = s.desk.consoles ∧ unchangedBut [.desk] s t)) ∧
      ((q.deferTimers.get c).isRunning = false → exec (.deferExpiry c n) s = .next s)

/-- REFRESH sends CLEAR_ALL and then a SHOW for each prompt of the console's area, higher severities first and
within a severity in posting order, and changes nothing else (R115, R130). -/
def Obligations.Refreshed : Prop :=
  ∀ (s : State) (c : Console), ∃ ps : List Prompt,
    exec (.refresh c) s = .next (afterSending (.console c .clearAll :: ps.map (showing c)) s) ∧
      ps.Pairwise (fun p q => severityRank q.severity ≤ severityRank p.severity) ∧
      ∀ g, ps.filter (fun p => p.severity = g) = (s.areaPrompts c).filter fun p => p.severity = g
end

