-- ==== Sys2Proof/Laws/State.lean ====
section
/-!
SUPPORT. What each small update of State leaves as it is, field by field, and what an update reads back.
-/

namespace Sys2Proof

/-! ### Banks -/

theorem Bank.get_set_self {α : Type} {n : Nat} (b : Bank α n) (i : Fin n) (x : α) :
    (b.set i x).get i = x := by simp [Bank.get, Bank.set]

theorem Bank.get_set_ne {α : Type} {n : Nat} (b : Bank α n) (i k : Fin n) (x : α) (h : i ≠ k) :
    (b.set i x).get k = b.get k := by
  simp only [Bank.get, Bank.set]
  exact List.getElem_set_ne (fun e => h (Fin.ext e)) _

theorem Bank.get_replicate {α : Type} {n : Nat} (i : Fin n) (x : α) :
    (Bank.replicate n x).get i = x := by simp [Bank.get, Bank.replicate]

theorem Bank.get_map {α β : Type} {n : Nat} (b : Bank α n) (f : α → β) (i : Fin n) :
    (b.map f).get i = f (b.get i) := by simp [Bank.get, Bank.map]

namespace Machine

variable (s : State)

/-! ### What an update reads back -/

@[simp] theorem emit_sent (f : Sent) : (s.emit f).sent = s.sent ++ [f] := rfl

@[simp] theorem updateDrive_drive (d : DriveId) (f : Drive → Drive) :
    (s.updateDrive d f).drive d = f (s.drive d) := Bank.get_set_self _ _ _

theorem updateDrive_drive_ne (d e : DriveId) (f : Drive → Drive) (h : d ≠ e) :
    (s.updateDrive d f).drive e = s.drive e := Bank.get_set_ne _ _ _ _ h

@[simp] theorem setArm_arm (x : ArmId) (r : Arm) : (s.setArm x r).arm x = r := by cases x <;> rfl

@[simp] theorem setArm_arm_other (x : ArmId) (r : Arm) :
    (s.setArm x r).arm (otherArm x) = s.arm (otherArm x) := by cases x <;> rfl

@[simp] theorem updateArm_arm (x : ArmId) (f : Arm → Arm) :
    (s.updateArm x f).arm x = f (s.arm x) := setArm_arm _ _ _

@[simp] theorem updateConsole_console (c : Console) (f : ConsoleState → ConsoleState) :
    (s.updateConsole c f).console c = f (s.console c) := Bank.get_set_self _ _ _

/-! ### What an update leaves -/

@[simp] theorem emit_intake (f : Sent) : (s.emit f).intake = s.intake := rfl
@[simp] theorem emit_map (f : Sent) : (s.emit f).map = s.map := rfl
@[simp] theorem emit_drives (f : Sent) : (s.emit f).drives = s.drives := rfl
@[simp] theorem emit_work (f : Sent) : (s.emit f).work = s.work := rfl
@[simp] theorem emit_arms (f : Sent) : (s.emit f).arms = s.arms := rfl
@[simp] theorem emit_station (f : Sent) : (s.emit f).station = s.station := rfl
@[simp] theorem emit_desk (f : Sent) : (s.emit f).desk = s.desk := rfl
@[simp] theorem emit_clock (f : Sent) : (s.emit f).clock = s.clock := rfl
@[simp] theorem emit_accounting (f : Sent) : (s.emit f).accounting = s.accounting := rfl
@[simp] theorem emit_errors (f : Sent) : (s.emit f).errors = s.errors := rfl
@[simp] theorem emit_notices (f : Sent) : (s.emit f).notices = s.notices := rfl
@[simp] theorem emit_causes (f : Sent) : (s.emit f).causes = s.causes := rfl
@[simp] theorem emit_control (f : Sent) : (s.emit f).control = s.control := rfl
@[simp] theorem emit_policy (f : Sent) : (s.emit f).policy = s.policy := rfl
@[simp] theorem emit_choices (f : Sent) : (s.emit f).choices = s.choices := rfl
@[simp] theorem emit_pending (f : Sent) : (s.emit f).pending = s.pending := rfl

@[simp] theorem updateDrive_intake (d : DriveId) (f : Drive → Drive) : (s.updateDrive d f).intake = s.intake := rfl
@[simp] theorem updateDrive_map (d : DriveId) (f : Drive → Drive) : (s.updateDrive d f).map = s.map := rfl
@[simp] theorem updateDrive_work (d : DriveId) (f : Drive → Drive) : (s.updateDrive d f).work = s.work := rfl
@[simp] theorem updateDrive_arms (d : DriveId) (f : Drive → Drive) : (s.updateDrive d f).arms = s.arms := rfl
@[simp] theorem updateDrive_station (d : DriveId) (f : Drive → Drive) : (s.updateDrive d f).station = s.station := rfl
@[simp] theorem updateDrive_desk (d : DriveId) (f : Drive → Drive) : (s.updateDrive d f).desk = s.desk := rfl
@[simp] theorem updateDrive_clock (d : DriveId) (f : Drive → Drive) : (s.updateDrive d f).clock = s.clock := rfl
@[simp] theorem updateDrive_accounting (d : DriveId) (f : Drive → Drive) : (s.updateDrive d f).accounting = s.accounting := rfl
@[simp] theorem updateDrive_errors (d : DriveId) (f : Drive → Drive) : (s.updateDrive d f).errors = s.errors := rfl
@[simp] theorem updateDrive_notices (d : DriveId) (f : Drive → Drive) : (s.updateDrive d f).notices = s.notices := rfl
@[simp] theorem updateDrive_causes (d : DriveId) (f : Drive → Drive) : (s.updateDrive d f).causes = s.causes := rfl
@[simp] theorem updateDrive_control (d : DriveId) (f : Drive → Drive) : (s.updateDrive d f).control = s.control := rfl
@[simp] theorem updateDrive_policy (d : DriveId) (f : Drive → Drive) : (s.updateDrive d f).policy = s.policy := rfl
@[simp] theorem updateDrive_sent (d : DriveId) (f : Drive → Drive) : (s.updateDrive d f).sent = s.sent := rfl
@[simp] theorem updateDrive_choices (d : DriveId) (f : Drive → Drive) : (s.updateDrive d f).choices = s.choices := rfl
@[simp] theorem updateDrive_pending (d : DriveId) (f : Drive → Drive) : (s.updateDrive d f).pending = s.pending := rfl

@[simp] theorem updateJob_intake (n : Nat) (f : Job → Job) : (s.updateJob n f).intake = s.intake := rfl
@[simp] theorem updateJob_map (n : Nat) (f : Job → Job) : (s.updateJob n f).map = s.map := rfl
@[simp] theorem updateJob_drives (n : Nat) (f : Job → Job) : (s.updateJob n f).drives = s.drives := rfl
@[simp] theorem updateJob_arms (n : Nat) (f : Job → Job) : (s.updateJob n f).arms = s.arms := rfl
@[simp] theorem updateJob_station (n : Nat) (f : Job → Job) : (s.updateJob n f).station = s.station := rfl
@[simp] theorem updateJob_desk (n : Nat) (f : Job → Job) : (s.updateJob n f).desk = s.desk := rfl
@[simp] theorem updateJob_clock (n : Nat) (f : Job → Job) : (s.updateJob n f).clock = s.clock := rfl
@[simp] theorem updateJob_accounting (n : Nat) (f : Job → Job) : (s.updateJob n f).accounting = s.accounting := rfl
@[simp] theorem updateJob_errors (n : Nat) (f : Job → Job) : (s.updateJob n f).errors = s.errors := rfl
@[simp] theorem updateJob_notices (n : Nat) (f : Job → Job) : (s.updateJob n f).notices = s.notices := rfl
@[simp] theorem updateJob_causes (n : Nat) (f : Job → Job) : (s.updateJob n f).causes = s.causes := rfl
@[simp] theorem updateJob_control (n : Nat) (f : Job → Job) : (s.updateJob n f).control = s.control := rfl
@[simp] theorem updateJob_policy (n : Nat) (f : Job → Job) : (s.updateJob n f).policy = s.policy := rfl
@[simp] theorem updateJob_sent (n : Nat) (f : Job → Job) : (s.updateJob n f).sent = s.sent := rfl
@[simp] theorem updateJob_choices (n : Nat) (f : Job → Job) : (s.updateJob n f).choices = s.choices := rfl
@[simp] theorem updateJob_pending (n : Nat) (f : Job → Job) : (s.updateJob n f).pending = s.pending := rfl

@[simp] theorem setRing_intake (b : RingBay) (t : BayState) : (s.setRing b t).intake = s.intake := rfl
@[simp] theorem setRing_map (b : RingBay) (t : BayState) : (s.setRing b t).map = s.map := rfl
@[simp] theorem setRing_drives (b : RingBay) (t : BayState) : (s.setRing b t).drives = s.drives := rfl
@[simp] theorem setRing_work (b : RingBay) (t : BayState) : (s.setRing b t).work = s.work := rfl
@[simp] theorem setRing_arms (b : RingBay) (t : BayState) : (s.setRing b t).arms = s.arms := rfl
@[simp] theorem setRing_desk (b : RingBay) (t : BayState) : (s.setRing b t).desk = s.desk := rfl
@[simp] theorem setRing_clock (b : RingBay) (t : BayState) : (s.setRing b t).clock = s.clock := rfl
@[simp] theorem setRing_accounting (b : RingBay) (t : BayState) : (s.setRing b t).accounting = s.accounting := rfl
@[simp] theorem setRing_errors (b : RingBay) (t : BayState) : (s.setRing b t).errors = s.errors := rfl
@[simp] theorem setRing_notices (b : RingBay) (t : BayState) : (s.setRing b t).notices = s.notices := rfl
@[simp] theorem setRing_causes (b : RingBay) (t : BayState) : (s.setRing b t).causes = s.causes := rfl
@[simp] theorem setRing_control (b : RingBay) (t : BayState) : (s.setRing b t).control = s.control := rfl
@[simp] theorem setRing_policy (b : RingBay) (t : BayState) : (s.setRing b t).policy = s.policy := rfl
@[simp] theorem setRing_sent (b : RingBay) (t : BayState) : (s.setRing b t).sent = s.sent := rfl
@[simp] theorem setRing_choices (b : RingBay) (t : BayState) : (s.setRing b t).choices = s.choices := rfl
@[simp] theorem setRing_pending (b : RingBay) (t : BayState) : (s.setRing b t).pending = s.pending := rfl

@[simp] theorem setHatch_intake (b : HatchBay) (t : BayState) : (s.setHatch b t).intake = s.intake := rfl
@[simp] theorem setHatch_map (b : HatchBay) (t : BayState) : (s.setHatch b t).map = s.map := rfl
@[simp] theorem setHatch_drives (b : HatchBay) (t : BayState) : (s.setHatch b t).drives = s.drives := rfl
@[simp] theorem setHatch_work (b : HatchBay) (t : BayState) : (s.setHatch b t).work = s.work := rfl
@[simp] theorem setHatch_arms (b : HatchBay) (t : BayState) : (s.setHatch b t).arms = s.arms := rfl
@[simp] theorem setHatch_desk (b : HatchBay) (t : BayState) : (s.setHatch b t).desk = s.desk := rfl
@[simp] theorem setHatch_clock (b : HatchBay) (t : BayState) : (s.setHatch b t).clock = s.clock := rfl
@[simp] theorem setHatch_accounting (b : HatchBay) (t : BayState) : (s.setHatch b t).accounting = s.accounting := rfl
@[simp] theorem setHatch_errors (b : HatchBay) (t : BayState) : (s.setHatch b t).errors = s.errors := rfl
@[simp] theorem setHatch_notices (b : HatchBay) (t : BayState) : (s.setHatch b t).notices = s.notices := rfl
@[simp] theorem setHatch_causes (b : HatchBay) (t : BayState) : (s.setHatch b t).causes = s.causes := rfl
@[simp] theorem setHatch_control (b : HatchBay) (t : BayState) : (s.setHatch b t).control = s.control := rfl
@[simp] theorem setHatch_policy (b : HatchBay) (t : BayState) : (s.setHatch b t).policy = s.policy := rfl
@[simp] theorem setHatch_sent (b : HatchBay) (t : BayState) : (s.setHatch b t).sent = s.sent := rfl
@[simp] theorem setHatch_choices (b : HatchBay) (t : BayState) : (s.setHatch b t).choices = s.choices := rfl
@[simp] theorem setHatch_pending (b : HatchBay) (t : BayState) : (s.setHatch b t).pending = s.pending := rfl

@[simp] theorem updateVolume_intake (v : Nat) (f : Volume → Volume) : (s.updateVolume v f).intake = s.intake := rfl
@[simp] theorem updateVolume_drives (v : Nat) (f : Volume → Volume) : (s.updateVolume v f).drives = s.drives := rfl
@[simp] theorem updateVolume_work (v : Nat) (f : Volume → Volume) : (s.updateVolume v f).work = s.work := rfl
@[simp] theorem updateVolume_arms (v : Nat) (f : Volume → Volume) : (s.updateVolume v f).arms = s.arms := rfl
@[simp] theorem updateVolume_station (v : Nat) (f : Volume → Volume) : (s.updateVolume v f).station = s.station := rfl
@[simp] theorem updateVolume_desk (v : Nat) (f : Volume → Volume) : (s.updateVolume v f).desk = s.desk := rfl
@[simp] theorem updateVolume_clock (v : Nat) (f : Volume → Volume) : (s.updateVolume v f).clock = s.clock := rfl
@[simp] theorem updateVolume_accounting (v : Nat) (f : Volume → Volume) : (s.updateVolume v f).accounting = s.accounting := rfl
@[simp] theorem updateVolume_errors (v : Nat) (f : Volume → Volume) : (s.updateVolume v f).errors = s.errors := rfl
@[simp] theorem updateVolume_notices (v : Nat) (f : Volume → Volume) : (s.updateVolume v f).notices = s.notices := rfl
@[simp] theorem updateVolume_causes (v : Nat) (f : Volume → Volume) : (s.updateVolume v f).causes = s.causes := rfl
@[simp] theorem updateVolume_control (v : Nat) (f : Volume → Volume) : (s.updateVolume v f).control = s.control := rfl
@[simp] theorem updateVolume_policy (v : Nat) (f : Volume → Volume) : (s.updateVolume v f).policy = s.policy := rfl
@[simp] theorem updateVolume_sent (v : Nat) (f : Volume → Volume) : (s.updateVolume v f).sent = s.sent := rfl
@[simp] theorem updateVolume_choices (v : Nat) (f : Volume → Volume) : (s.updateVolume v f).choices = s.choices := rfl
@[simp] theorem updateVolume_pending (v : Nat) (f : Volume → Volume) : (s.updateVolume v f).pending = s.pending := rfl

@[simp] theorem updateAccount_intake (a : AccountId) (f : Account → Account) : (s.updateAccount a f).intake = s.intake := rfl
@[simp] theorem updateAccount_map (a : AccountId) (f : Account → Account) : (s.updateAccount a f).map = s.map := rfl
@[simp] theorem updateAccount_drives (a : AccountId) (f : Account → Account) : (s.updateAccount a f).drives = s.drives := rfl
@[simp] theorem updateAccount_work (a : AccountId) (f : Account → Account) : (s.updateAccount a f).work = s.work := rfl
@[simp] theorem updateAccount_arms (a : AccountId) (f : Account → Account) : (s.updateAccount a f).arms = s.arms := rfl
@[simp] theorem updateAccount_station (a : AccountId) (f : Account → Account) : (s.updateAccount a f).station = s.station := rfl
@[simp] theorem updateAccount_desk (a : AccountId) (f : Account → Account) : (s.updateAccount a f).desk = s.desk := rfl
@[simp] theorem updateAccount_clock (a : AccountId) (f : Account → Account) : (s.updateAccount a f).clock = s.clock := rfl
@[simp] theorem updateAccount_errors (a : AccountId) (f : Account → Account) : (s.updateAccount a f).errors = s.errors := rfl
@[simp] theorem updateAccount_notices (a : AccountId) (f : Account → Account) : (s.updateAccount a f).notices = s.notices := rfl
@[simp] theorem updateAccount_causes (a : AccountId) (f : Account → Account) : (s.updateAccount a f).causes = s.causes := rfl
@[simp] theorem updateAccount_control (a : AccountId) (f : Account → Account) : (s.updateAccount a f).control = s.control := rfl
@[simp] theorem updateAccount_policy (a : AccountId) (f : Account → Account) : (s.updateAccount a f).policy = s.policy := rfl
@[simp] theorem updateAccount_sent (a : AccountId) (f : Account → Account) : (s.updateAccount a f).sent = s.sent := rfl
@[simp] theorem updateAccount_choices (a : AccountId) (f : Account → Account) : (s.updateAccount a f).choices = s.choices := rfl
@[simp] theorem updateAccount_pending (a : AccountId) (f : Account → Account) : (s.updateAccount a f).pending = s.pending := rfl

@[simp] theorem updateNotice_intake (c : NoticeClass) (f : NoticeState → NoticeState) : (s.updateNotice c f).intake = s.intake := rfl
@[simp] theorem updateNotice_map (c : NoticeClass) (f : NoticeState → NoticeState) : (s.updateNotice c f).map = s.map := rfl
@[simp] theorem updateNotice_drives (c : NoticeClass) (f : NoticeState → NoticeState) : (s.updateNotice c f).drives = s.drives := rfl
@[simp] theorem updateNotice_work (c : NoticeClass) (f : NoticeState → NoticeState) : (s.updateNotice c f).work = s.work := rfl
@[simp] theorem updateNotice_arms (c : NoticeClass) (f : NoticeState → NoticeState) : (s.updateNotice c f).arms = s.arms := rfl
@[simp] theorem updateNotice_station (c : NoticeClass) (f : NoticeState → NoticeState) : (s.updateNotice c f).station = s.station := rfl
@[simp] theorem updateNotice_desk (c : NoticeClass) (f : NoticeState → NoticeState) : (s.updateNotice c f).desk = s.desk := rfl
@[simp] theorem updateNotice_clock (c : NoticeClass) (f : NoticeState → NoticeState) : (s.updateNotice c f).clock = s.clock := rfl
@[simp] theorem updateNotice_accounting (c : NoticeClass) (f : NoticeState → NoticeState) : (s.updateNotice c f).accounting = s.accounting := rfl
@[simp] theorem updateNotice_errors (c : NoticeClass) (f : NoticeState → NoticeState) : (s.updateNotice c f).errors = s.errors := rfl
@[simp] theorem updateNotice_causes (c : NoticeClass) (f : NoticeState → NoticeState) : (s.updateNotice c f).causes = s.causes := rfl
@[simp] theorem updateNotice_control (c : NoticeClass) (f : NoticeState → NoticeState) : (s.updateNotice c f).control = s.control := rfl
@[simp] theorem updateNotice_policy (c : NoticeClass) (f : NoticeState → NoticeState) : (s.updateNotice c f).policy = s.policy := rfl
@[simp] theorem updateNotice_sent (c : NoticeClass) (f : NoticeState → NoticeState) : (s.updateNotice c f).sent = s.sent := rfl
@[simp] theorem updateNotice_choices (c : NoticeClass) (f : NoticeState → NoticeState) : (s.updateNotice c f).choices = s.choices := rfl
@[simp] theorem updateNotice_pending (c : NoticeClass) (f : NoticeState → NoticeState) : (s.updateNotice c f).pending = s.pending := rfl

@[simp] theorem updatePrompt_intake (n : Nat) (f : Prompt → Prompt) : (s.updatePrompt n f).intake = s.intake := rfl
@[simp] theorem updatePrompt_map (n : Nat) (f : Prompt → Prompt) : (s.updatePrompt n f).map = s.map := rfl
@[simp] theorem updatePrompt_drives (n : Nat) (f : Prompt → Prompt) : (s.updatePrompt n f).drives = s.drives := rfl
@[simp] theorem updatePrompt_work (n : Nat) (f : Prompt → Prompt) : (s.updatePrompt n f).work = s.work := rfl
@[simp] theorem updatePrompt_arms (n : Nat) (f : Prompt → Prompt) : (s.updatePrompt n f).arms = s.arms := rfl
@[simp] theorem updatePrompt_station (n : Nat) (f : Prompt → Prompt) : (s.updatePrompt n f).station = s.station := rfl
@[simp] theorem updatePrompt_clock (n : Nat) (f : Prompt → Prompt) : (s.updatePrompt n f).clock = s.clock := rfl
@[simp] theorem updatePrompt_accounting (n : Nat) (f : Prompt → Prompt) : (s.updatePrompt n f).accounting = s.accounting := rfl
@[simp] theorem updatePrompt_errors (n : Nat) (f : Prompt → Prompt) : (s.updatePrompt n f).errors = s.errors := rfl
@[simp] theorem updatePrompt_notices (n : Nat) (f : Prompt → Prompt) : (s.updatePrompt n f).notices = s.notices := rfl
@[simp] theorem updatePrompt_causes (n : Nat) (f : Prompt → Prompt) : (s.updatePrompt n f).causes = s.causes := rfl
@[simp] theorem updatePrompt_control (n : Nat) (f : Prompt → Prompt) : (s.updatePrompt n f).control = s.control := rfl
@[simp] theorem updatePrompt_policy (n : Nat) (f : Prompt → Prompt) : (s.updatePrompt n f).policy = s.policy := rfl
@[simp] theorem updatePrompt_sent (n : Nat) (f : Prompt → Prompt) : (s.updatePrompt n f).sent = s.sent := rfl
@[simp] theorem updatePrompt_choices (n : Nat) (f : Prompt → Prompt) : (s.updatePrompt n f).choices = s.choices := rfl
@[simp] theorem updatePrompt_pending (n : Nat) (f : Prompt → Prompt) : (s.updatePrompt n f).pending = s.pending := rfl

@[simp] theorem updateConsole_intake (c : Console) (f : ConsoleState → ConsoleState) : (s.updateConsole c f).intake = s.intake := rfl
@[simp] theorem updateConsole_map (c : Console) (f : ConsoleState → ConsoleState) : (s.updateConsole c f).map = s.map := rfl
@[simp] theorem updateConsole_drives (c : Console) (f : ConsoleState → ConsoleState) : (s.updateConsole c f).drives = s.drives := rfl
@[simp] theorem updateConsole_work (c : Console) (f : ConsoleState → ConsoleState) : (s.updateConsole c f).work = s.work := rfl
@[simp] theorem updateConsole_arms (c : Console) (f : ConsoleState → ConsoleState) : (s.updateConsole c f).arms = s.arms := rfl
@[simp] theorem updateConsole_station (c : Console) (f : ConsoleState → ConsoleState) : (s.updateConsole c f).station = s.station := rfl
@[simp] theorem updateConsole_clock (c : Console) (f : ConsoleState → ConsoleState) : (s.updateConsole c f).clock = s.clock := rfl
@[simp] theorem updateConsole_accounting (c : Console) (f : ConsoleState → ConsoleState) : (s.updateConsole c f).accounting = s.accounting := rfl
@[simp] theorem updateConsole_errors (c : Console) (f : ConsoleState → ConsoleState) : (s.updateConsole c f).errors = s.errors := rfl
@[simp] theorem updateConsole_notices (c : Console) (f : ConsoleState → ConsoleState) : (s.updateConsole c f).notices = s.notices := rfl
@[simp] theorem updateConsole_causes (c : Console) (f : ConsoleState → ConsoleState) : (s.updateConsole c f).causes = s.causes := rfl
@[simp] theorem updateConsole_control (c : Console) (f : ConsoleState → ConsoleState) : (s.updateConsole c f).control = s.control := rfl
@[simp] theorem updateConsole_policy (c : Console) (f : ConsoleState → ConsoleState) : (s.updateConsole c f).policy = s.policy := rfl
@[simp] theorem updateConsole_sent (c : Console) (f : ConsoleState → ConsoleState) : (s.updateConsole c f).sent = s.sent := rfl
@[simp] theorem updateConsole_choices (c : Console) (f : ConsoleState → ConsoleState) : (s.updateConsole c f).choices = s.choices := rfl
@[simp] theorem updateConsole_pending (c : Console) (f : ConsoleState → ConsoleState) : (s.updateConsole c f).pending = s.pending := rfl

@[simp] theorem updateIntake_map (l : Link) (f : LinkState → LinkState) : (s.updateIntake l f).map = s.map := rfl
@[simp] theorem updateIntake_drives (l : Link) (f : LinkState → LinkState) : (s.updateIntake l f).drives = s.drives := rfl
@[simp] theorem updateIntake_work (l : Link) (f : LinkState → LinkState) : (s.updateIntake l f).work = s.work := rfl
@[simp] theorem updateIntake_arms (l : Link) (f : LinkState → LinkState) : (s.updateIntake l f).arms = s.arms := rfl
@[simp] theorem updateIntake_station (l : Link) (f : LinkState → LinkState) : (s.updateIntake l f).station = s.station := rfl
@[simp] theorem updateIntake_desk (l : Link) (f : LinkState → LinkState) : (s.updateIntake l f).desk = s.desk := rfl
@[simp] theorem updateIntake_clock (l : Link) (f : LinkState → LinkState) : (s.updateIntake l f).clock = s.clock := rfl
@[simp] theorem updateIntake_accounting (l : Link) (f : LinkState → LinkState) : (s.updateIntake l f).accounting = s.accounting := rfl
@[simp] theorem updateIntake_errors (l : Link) (f : LinkState → LinkState) : (s.updateIntake l f).errors = s.errors := rfl
@[simp] theorem updateIntake_notices (l : Link) (f : LinkState → LinkState) : (s.updateIntake l f).notices = s.notices := rfl
@[simp] theorem updateIntake_causes (l : Link) (f : LinkState → LinkState) : (s.updateIntake l f).causes = s.causes := rfl
@[simp] theorem updateIntake_control (l : Link) (f : LinkState → LinkState) : (s.updateIntake l f).control = s.control := rfl
@[simp] theorem updateIntake_policy (l : Link) (f : LinkState → LinkState) : (s.updateIntake l f).policy = s.policy := rfl
@[simp] theorem updateIntake_sent (l : Link) (f : LinkState → LinkState) : (s.updateIntake l f).sent = s.sent := rfl
@[simp] theorem updateIntake_choices (l : Link) (f : LinkState → LinkState) : (s.updateIntake l f).choices = s.choices := rfl
@[simp] theorem updateIntake_pending (l : Link) (f : LinkState → LinkState) : (s.updateIntake l f).pending = s.pending := rfl

@[simp] theorem setArm_intake (x : ArmId) (r : Arm) : (s.setArm x r).intake = s.intake := by cases x <;> rfl
@[simp] theorem setArm_map (x : ArmId) (r : Arm) : (s.setArm x r).map = s.map := by cases x <;> rfl
@[simp] theorem setArm_drives (x : ArmId) (r : Arm) : (s.setArm x r).drives = s.drives := by cases x <;> rfl
@[simp] theorem setArm_work (x : ArmId) (r : Arm) : (s.setArm x r).work = s.work := by cases x <;> rfl
@[simp] theorem setArm_station (x : ArmId) (r : Arm) : (s.setArm x r).station = s.station := by cases x <;> rfl
@[simp] theorem setArm_desk (x : ArmId) (r : Arm) : (s.setArm x r).desk = s.desk := by cases x <;> rfl
@[simp] theorem setArm_clock (x : ArmId) (r : Arm) : (s.setArm x r).clock = s.clock := by cases x <;> rfl
@[simp] theorem setArm_accounting (x : ArmId) (r : Arm) : (s.setArm x r).accounting = s.accounting := by cases x <;> rfl
@[simp] theorem setArm_errors (x : ArmId) (r : Arm) : (s.setArm x r).errors = s.errors := by cases x <;> rfl
@[simp] theorem setArm_notices (x : ArmId) (r : Arm) : (s.setArm x r).notices = s.notices := by cases x <;> rfl
@[simp] theorem setArm_causes (x : ArmId) (r : Arm) : (s.setArm x r).causes = s.causes := by cases x <;> rfl
@[simp] theorem setArm_control (x : ArmId) (r : Arm) : (s.setArm x r).control = s.control := by cases x <;> rfl
@[simp] theorem setArm_policy (x : ArmId) (r : Arm) : (s.setArm x r).policy = s.policy := by cases x <;> rfl
@[simp] theorem setArm_sent (x : ArmId) (r : Arm) : (s.setArm x r).sent = s.sent := by cases x <;> rfl
@[simp] theorem setArm_choices (x : ArmId) (r : Arm) : (s.setArm x r).choices = s.choices := by cases x <;> rfl
@[simp] theorem setArm_pending (x : ArmId) (r : Arm) : (s.setArm x r).pending = s.pending := by cases x <;> rfl

@[simp] theorem updateArm_intake (x : ArmId) (f : Arm → Arm) : (s.updateArm x f).intake = s.intake := setArm_intake _ _ _
@[simp] theorem updateArm_map (x : ArmId) (f : Arm → Arm) : (s.updateArm x f).map = s.map := setArm_map _ _ _
@[simp] theorem updateArm_drives (x : ArmId) (f : Arm → Arm) : (s.updateArm x f).drives = s.drives := setArm_drives _ _ _
@[simp] theorem updateArm_work (x : ArmId) (f : Arm → Arm) : (s.updateArm x f).work = s.work := setArm_work _ _ _
@[simp] theorem updateArm_station (x : ArmId) (f : Arm → Arm) : (s.updateArm x f).station = s.station := setArm_station _ _ _
@[simp] theorem updateArm_desk (x : ArmId) (f : Arm → Arm) : (s.updateArm x f).desk = s.desk := setArm_desk _ _ _
@[simp] theorem updateArm_clock (x : ArmId) (f : Arm → Arm) : (s.updateArm x f).clock = s.clock := setArm_clock _ _ _
@[simp] theorem updateArm_accounting (x : ArmId) (f : Arm → Arm) : (s.updateArm x f).accounting = s.accounting := setArm_accounting _ _ _
@[simp] theorem updateArm_errors (x : ArmId) (f : Arm → Arm) : (s.updateArm x f).errors = s.errors := setArm_errors _ _ _
@[simp] theorem updateArm_notices (x : ArmId) (f : Arm → Arm) : (s.updateArm x f).notices = s.notices := setArm_notices _ _ _
@[simp] theorem updateArm_causes (x : ArmId) (f : Arm → Arm) : (s.updateArm x f).causes = s.causes := setArm_causes _ _ _
@[simp] theorem updateArm_control (x : ArmId) (f : Arm → Arm) : (s.updateArm x f).control = s.control := setArm_control _ _ _
@[simp] theorem updateArm_policy (x : ArmId) (f : Arm → Arm) : (s.updateArm x f).policy = s.policy := setArm_policy _ _ _
@[simp] theorem updateArm_sent (x : ArmId) (f : Arm → Arm) : (s.updateArm x f).sent = s.sent := setArm_sent _ _ _
@[simp] theorem updateArm_choices (x : ArmId) (f : Arm → Arm) : (s.updateArm x f).choices = s.choices := setArm_choices _ _ _
@[simp] theorem updateArm_pending (x : ArmId) (f : Arm → Arm) : (s.updateArm x f).pending = s.pending := setArm_pending _ _ _

end Machine

end Sys2Proof
end

