-- ==== Sys2Proof/Laws/Finish.lean ====
section
/-!
SUPPORT. What the aftermath of an event leaves alone: posting and settling prompts, sending orders,
offering bays, granting runs and changing the mode touch no volume, no account, no clock and no error
(R60, R77, R97, R112, R116, R170, R173, R175).
-/

namespace Sys2Proof.Machine

/-- The parts of the state that no aftermath of an event changes. -/
structure Still where
  intake : Bank LinkState 4
  map : VolumeMap
  clock : Clock
  accounting : Accounting
  errors : ErrorLog
  causes : ResetCauses
  door : DoorState
  policy : Policy
  choices : Nat
  pending : List Instr

/-- The parts of a state that no aftermath of an event changes. -/
def State.still (s : State) : Still :=
  { intake := s.intake, map := s.map, clock := s.clock, accounting := s.accounting, errors := s.errors
    causes := s.causes, door := s.control.door, policy := s.policy, choices := s.choices
    pending := s.pending }

variable (s : State)

/-! ### Small updates -/

@[simp] theorem emit_still (f : Sent) : (s.emit f).still = s.still := rfl
@[simp] theorem updateDrive_still (d : DriveId) (f : Drive → Drive) :
    (s.updateDrive d f).still = s.still := rfl
@[simp] theorem updateJob_still (n : Nat) (f : Job → Job) : (s.updateJob n f).still = s.still := rfl
@[simp] theorem setRing_still (b : RingBay) (t : BayState) : (s.setRing b t).still = s.still := rfl
@[simp] theorem setHatch_still (b : HatchBay) (t : BayState) : (s.setHatch b t).still = s.still := rfl
@[simp] theorem updateNotice_still (c : NoticeClass) (f : NoticeState → NoticeState) :
    (s.updateNotice c f).still = s.still := rfl
@[simp] theorem updatePrompt_still (n : Nat) (f : Prompt → Prompt) :
    (s.updatePrompt n f).still = s.still := rfl
@[simp] theorem updateConsole_still (c : Console) (f : ConsoleState → ConsoleState) :
    (s.updateConsole c f).still = s.still := rfl
@[simp] theorem setArm_still (x : ArmId) (r : Arm) : (s.setArm x r).still = s.still := by
  cases x <;> rfl
@[simp] theorem updateArm_still (x : ArmId) (f : Arm → Arm) : (s.updateArm x f).still = s.still :=
  setArm_still _ _ _
@[simp] theorem withDesk_still (k : PromptControl) : ({ s with desk := k } : State).still = s.still := rfl
@[simp] theorem withWork_still (k : WorkList) : ({ s with work := k } : State).still = s.still := rfl
@[simp] theorem withArms_still (k : ArmControl) : ({ s with arms := k } : State).still = s.still := rfl
@[simp] theorem withStation_still (k : Station) : ({ s with station := k } : State).still = s.still := rfl

/-- A fold of steps that each leave the still parts leaves them. -/
theorem foldl_still {ι : Type} (f : State → ι → State) (h : ∀ s i, (f s i).still = s.still)
    (l : List ι) (s : State) : (l.foldl f s).still = s.still := by
  induction l generalizing s with
  | nil => rfl
  | cons i rest ih => rw [List.foldl_cons, ih, h]

/-! ### Notices -/

@[simp] theorem sendNotice_still (c : NoticeClass) (d : NoticeData) :
    (s.sendNotice c d).still = s.still := rfl

@[simp] theorem raiseEvent_still (c : NoticeClass) (d : NoticeData) :
    (s.raiseEvent c d).still = s.still := by
  unfold State.raiseEvent; split <;> simp

@[simp] theorem setLevel_still (c : NoticeClass) (b : Bool) (d : NoticeData) :
    (s.setLevel c b d).still = s.still := by
  unfold State.setLevel; dsimp only; (repeat' split) <;> simp

@[simp] theorem evalArmState_still : s.evalArmState.still = s.still := setLevel_still _ _ _ _
@[simp] theorem evalDriveService_still : s.evalDriveService.still = s.still := setLevel_still _ _ _ _

/-! ### Prompts -/

@[simp] theorem tellConsole_still (c : Console) (f : ConsoleFrame) :
    (s.tellConsole c f).still = s.still := rfl

@[simp] theorem sendShow_still (c : Console) (n : Nat) : (s.sendShow c n).still = s.still := by
  unfold State.sendShow; split <;> simp

@[simp] theorem retime_still (n : Nat) (p : PromptPosition) : (s.retime n p).still = s.still := rfl

@[simp] theorem enterArea_still (c : Console) (n : Nat) : (s.enterArea c n).still = s.still := by
  simp [State.enterArea]

@[simp] theorem displace_still (c : Console) (n : Nat) : (s.displace c n).still = s.still := by
  simp [State.displace]

theorem settleStep_still (c : Console) (t : State) (h : s.settleStep c = some t) :
    t.still = s.still := by
  unfold State.settleStep at h
  (repeat' split at h) <;> simp at h <;> subst h <;> simp

@[simp] theorem settleWith_still (c : Console) (fuel : Nat) :
    (s.settleWith c fuel).still = s.still := by
  induction fuel generalizing s with
  | zero => rfl
  | succ fuel ih =>
    unfold State.settleWith
    split
    · rename_i t h; rw [ih, settleStep_still s c t h]
    · rfl

@[simp] theorem settle_still (c : Console) : (s.settle c).still = s.still := settleWith_still _ _ _
@[simp] theorem settleBoth_still : s.settleBoth.still = s.still := by simp [State.settleBoth]

@[simp] theorem recordPrompt_still (o : Owner) (k : PromptKind) (n : Nat) :
    (s.recordPrompt o k n).still = s.still := by
  unfold State.recordPrompt; (repeat' split) <;> simp

@[simp] theorem postNow_still (q : OwedPrompt) : (s.postNow q).still = s.still := by
  simp [State.postNow]

@[simp] theorem postOwedWith_still (fuel : Nat) : (s.postOwedWith fuel).still = s.still := by
  induction fuel generalizing s with
  | zero => rfl
  | succ fuel ih => unfold State.postOwedWith; (repeat' split) <;> simp [ih]

@[simp] theorem postOwed_still : s.postOwed.still = s.still := postOwedWith_still _ _

@[simp] theorem sendRemove_still (n : Nat) (w : RemoveReason) (c : Console) :
    (s.sendRemove n w c).still = s.still := by
  unfold State.sendRemove; split <;> simp

@[simp] theorem closePrompt_still (n : Nat) (w : RemoveReason) :
    (s.closePrompt n w).still = s.still := by
  simp only [State.closePrompt, settleBoth_still, postOwed_still, withDesk_still]
  exact foldl_still _ (fun t c => sendRemove_still t n w c) _ _

@[simp] theorem withdraw_still (o : Owner) (n : Nat) : (s.withdraw o n).still = s.still := by
  unfold State.withdraw; (repeat' split) <;> simp

@[simp] theorem dropOwed_still (o : Owner) (k : PromptKind → Bool) :
    (s.dropOwed o k).still = s.still := rfl

@[simp] theorem withdrawJobPrompt_still (n : Nat) (k : PromptKind → Bool) :
    (s.withdrawJobPrompt n k).still = s.still := by
  unfold State.withdrawJobPrompt; dsimp only; (repeat' split) <;> simp

@[simp] theorem post_still (o : Owner) (k : PromptKind) (p : PromptParams) (b : Bool) :
    (s.post o k p b).still = s.still := by
  unfold State.post; dsimp only; (repeat' split) <;> simp

@[simp] theorem postForJob_still (n : Nat) (k : PromptKind) (p : PromptParams) :
    (s.postForJob n k p).still = s.still := by
  unfold State.postForJob; split <;> simp

/-! ### Arms -/

@[simp] theorem sendOrder_still (x : ArmId) (o : Order) : (s.sendOrder x o).still = s.still := by
  simp [State.sendOrder]

@[simp] theorem keepNext_still (x : ArmId) (o : Order) : (s.keepNext x o).still = s.still := by
  simp [State.keepNext]

@[simp] theorem dispatch_still (x : ArmId) (o : Order) : (s.dispatch x o).still = s.still := by
  unfold State.dispatch; split <;> simp

@[simp] theorem homeIfDue_still (x : ArmId) : (s.homeIfDue x).still = s.still := by
  unfold State.homeIfDue; dsimp only; split <;> simp

@[simp] theorem formInFlight_still (x : ArmId) (f : InFlight) (j : Job) :
    (s.formInFlight x f j).still = s.still := by
  unfold State.formInFlight; dsimp only; (repeat' split) <;> simp

@[simp] theorem giveYield_still (x : ArmId) (p : Nat) : (s.giveYield x p).still = s.still := by
  simp [State.giveYield]

/-- Forming a claim leaves the still parts when what follows it does. -/
theorem formClaim_still (x : ArmId) (need : Span) (granted waits : State → State)
    (hg : ∀ t, (granted t).still = t.still) (hw : ∀ t, (waits t).still = t.still) :
    (s.formClaim x need granted waits).still = s.still := by
  unfold State.formClaim; (repeat' split) <;> simp [hg, hw]

@[simp] theorem tryGo_still (x : ArmId) : (s.tryGo x).still = s.still := by
  unfold State.tryGo; dsimp only
  (repeat' split) <;> first | simp | exact formClaim_still _ _ _ _ _ (by simp) (by simp)

@[simp] theorem retryArm_still (x : ArmId) : (s.retryArm x).still = s.still := by
  unfold State.retryArm; dsimp only; split <;> simp

@[simp] theorem resumeArm_still (x : ArmId) : (s.resumeArm x).still = s.still := by
  unfold State.resumeArm; dsimp only; (repeat' split) <;> simp

/-! ### Jobs -/

@[simp] theorem setJobState_still (n : Nat) (t : JobState) : (s.setJobState n t).still = s.still := rfl
@[simp] theorem addJob_still (n : Nat) (j : Job) : (s.addJob n j).still = s.still := rfl
@[simp] theorem nameDrive_still (d : DriveId) (n : Nat) : (s.nameDrive d n).still = s.still := rfl
@[simp] theorem setOwed_still (d : DriveId) (k : Option OwedKind) : (s.setOwed d k).still = s.still := rfl

@[simp] theorem afterUnloaded_still (n : Nat) (d : DriveId) : (s.afterUnloaded n d).still = s.still := by
  unfold State.afterUnloaded; dsimp only; split <;> simp

@[simp] theorem makeDemount_still (n : Nat) (d : DriveId) : (s.makeDemount n d).still = s.still := by
  simp [State.makeDemount]

@[simp] theorem makeClean_still (n : Nat) (d : DriveId) : (s.makeClean n d).still = s.still := by
  simp [State.makeClean]

@[simp] theorem makeCleanFromPull_still (n : Nat) (d : DriveId) :
    (s.makeCleanFromPull n d).still = s.still := by simp [State.makeCleanFromPull]

@[simp] theorem create_still (d : DriveId) (k : OwedKind) : (s.create d k).still = s.still := by
  unfold State.create; (repeat' split) <;> simp

/-! ### Bays and runs -/

theorem takeHatch_still (n : Nat) (x : ArmId) (b : HatchBay) (t : State)
    (h : State.takeHatch n x s b = some t) : t.still = s.still := by
  unfold State.takeHatch at h
  (repeat' split at h) <;> simp at h <;> subst h <;> simp

theorem takeRing_still (n : Nat) (x : ArmId) (b : RingBay) (t : State)
    (h : State.takeRing n x s b = some t) : t.still = s.still := by
  unfold State.takeRing at h
  (repeat' split at h) <;> simp at h <;> subst h <;> simp

@[simp] theorem claimHome_still (n : Nat) (x : ArmId) : (s.claimHome n x).still = s.still := by
  unfold State.claimHome; split
  · exact formClaim_still _ _ _ _ _ (by simp) (by simp)
  · rfl

/-- The first success of steps that each leave the still parts leaves them, and so does what stands for none. -/
theorem findSome_still {ι : Type} (f : ι → Option State) (h : ∀ i t, f i = some t → t.still = s.still)
    (l : List ι) {u : State} (hu : u.still = s.still) : ((l.findSome? f).getD u).still = s.still := by
  cases e : l.findSome? f with
  | none => exact hu
  | some t =>
    obtain ⟨i, _, hi⟩ := List.exists_of_findSome?_eq_some e
    exact h i t hi

@[simp] theorem retryHeld_still (n : Nat) (x : ArmId) : (s.retryHeld n x).still = s.still := by
  unfold State.retryHeld
  (repeat' split)
  · exact findSome_still s _ (fun b t h => takeHatch_still s n x b t h) _ (by simp)
  · exact findSome_still s _ (fun b t h => takeRing_still s n x b t h) _ (by simp)
  · rfl
  · rfl

@[simp] theorem retryOne_still (x : ArmId) : (s.retryOne x).still = s.still := by
  unfold State.retryOne; (repeat' split) <;> simp

@[simp] theorem retryAfter_still (b : State) (x : ArmId) :
    (State.retryAfter b x s).still = s.still := by
  unfold State.retryAfter; split <;> simp

@[simp] theorem enterAt_still (n : Nat) (b : HatchBay) : (s.enterAt n b).still = s.still := by
  unfold State.enterAt; split <;> simp

theorem offerRing_still (b : RingBay) : (s.offerRing b).still = s.still := by
  unfold State.offerRing
  refine findSome_still s _ (fun n t h => ?_) _ rfl
  split at h
  · exact takeRing_still s _ _ _ t h
  · simp at h

theorem offerHatch_still (b : HatchBay) : (s.offerHatch b).still = s.still := by
  unfold State.offerHatch
  dsimp only
  split
  · rename_i t h
    obtain ⟨n, _, hn⟩ := List.exists_of_findSome?_eq_some h
    split at hn
    · exact takeHatch_still s _ _ _ t hn
    · simp at hn
  · (repeat' split) <;> simp

@[simp] theorem offerBays_still (b : State) : (State.offerBays b s).still = s.still := by
  unfold State.offerBays
  dsimp only
  rw [foldl_still _ (fun t i => offerHatch_still t i), foldl_still _ (fun t i => offerRing_still t i)]

@[simp] theorem recordGrant_still (n : Nat) (j : Job) (x : ArmId) (r : RunOption) :
    (s.recordGrant n j x r).still = s.still := rfl

@[simp] theorem reserveBays_still (r : RunOption) (k : JobRef) :
    (s.reserveBays r k).still = s.still := by
  unfold State.reserveBays; dsimp only; (repeat' split) <;> simp

@[simp] theorem startRun_still (x : ArmId) (k : JobRef) (o : Order) (t : Span) :
    (s.startRun x k o t).still = s.still := by
  unfold State.startRun; dsimp only; (repeat' split) <;> simp

@[simp] theorem grant_still (n : Nat) (j : Job) (x : ArmId) (r : RunOption) :
    (s.grant n j x r).still = s.still := by
  unfold State.grant; dsimp only; split <;> simp

theorem propose_still (n : Nat) (j : Job) (r : RunOption) (t : State)
    (h : State.propose n j s r = some t) : t.still = s.still := by
  unfold State.propose at h
  dsimp only at h
  (repeat' split at h) <;> simp at h
  subst h; simp

@[simp] theorem holdForPool_still (n : Nat) (j : Job) : (s.holdForPool n j).still = s.still := by
  unfold State.holdForPool; split <;> simp

theorem consider_still (n : Nat) : (s.consider n).still = s.still := by
  unfold State.consider
  (repeat' split)
  · rfl
  · simp
  · exact findSome_still s _ (fun r t h => propose_still s _ _ r t h) _ rfl
  · exact findSome_still s _ (fun r t h => propose_still s _ _ r t h) _ rfl
  · rfl

@[simp] theorem assignmentPass_still : s.assignmentPass.still = s.still :=
  foldl_still _ (fun t n => consider_still t n) _ _

/-! ### The mode -/

theorem sweepDrive_still (d : DriveId) : (s.sweepDrive d).still = s.still := by
  unfold State.sweepDrive; dsimp only; (repeat' split) <;> simp

@[simp] theorem beginHoming_still : s.beginHoming.still = s.still := by simp [State.beginHoming]
@[simp] theorem enterSafe_still (old : Mode) : (s.enterSafe old).still = s.still := by
  unfold State.enterSafe; dsimp only; split <;> simp
@[simp] theorem resumeArms_still : s.resumeArms.still = s.still := by simp [State.resumeArms]

@[simp] theorem sweep_still : (allDrives.foldl State.sweepDrive s).still = s.still :=
  foldl_still _ (fun t d => sweepDrive_still t d) _ _

theorem withMode_still (m : Mode) (q : Bool) :
    ({ s with control := { s.control with mode := m, quiesceForced := q } } : State).still = s.still := rfl

@[simp] theorem enterMode_still (m : Mode) : (s.enterMode m).still = s.still := by
  unfold State.enterMode
  dsimp only
  (repeat' split) <;> simp [withMode_still]

@[simp] theorem endHoming_still : s.endHoming.still = s.still := by
  unfold State.endHoming; (repeat' split) <;> simp

@[simp] theorem quiesceCheck_still : s.quiesceCheck.still = s.still := by
  unfold State.quiesceCheck; split <;> simp

/-- What follows an event changes no still part. -/
@[simp] theorem finish_still (b : State) : (State.finish b s).still = s.still := by
  unfold State.finish; dsimp only; split <;> simp

/-! ### What follows an event, part by part -/

@[simp] theorem finish_intake (b : State) : (State.finish b s).intake = s.intake :=
  congrArg Still.intake (finish_still s b)
@[simp] theorem finish_map (b : State) : (State.finish b s).map = s.map :=
  congrArg Still.map (finish_still s b)
@[simp] theorem finish_clock (b : State) : (State.finish b s).clock = s.clock :=
  congrArg Still.clock (finish_still s b)
@[simp] theorem finish_accounting (b : State) : (State.finish b s).accounting = s.accounting :=
  congrArg Still.accounting (finish_still s b)
@[simp] theorem finish_errors (b : State) : (State.finish b s).errors = s.errors :=
  congrArg Still.errors (finish_still s b)
@[simp] theorem finish_causes (b : State) : (State.finish b s).causes = s.causes :=
  congrArg Still.causes (finish_still s b)
@[simp] theorem finish_door (b : State) : (State.finish b s).control.door = s.control.door :=
  congrArg Still.door (finish_still s b)
@[simp] theorem finish_policy (b : State) : (State.finish b s).policy = s.policy :=
  congrArg Still.policy (finish_still s b)
@[simp] theorem finish_choices (b : State) : (State.finish b s).choices = s.choices :=
  congrArg Still.choices (finish_still s b)
@[simp] theorem finish_pending (b : State) : (State.finish b s).pending = s.pending :=
  congrArg Still.pending (finish_still s b)

end Sys2Proof.Machine
end

