-- ==== Sys2Proof/Laws/Tables.lean ====
section
/-!
SUPPORT. The laws of the sparse tables: what is read after a put, an erasure or a change, that each keeps
the canonical form, and what the first free index is.
-/

namespace Sys2Proof.Machine

variable {α : Type}

theorem Table.get?_put_self (t : Table α) (i : Nat) (x : α) : (t.put i x).get? i = some x := by
  induction t with
  | nil => simp [Table.put, Table.get?]
  | cons e rest ih =>
    obtain ⟨k, y⟩ := e
    unfold Table.put
    split
    · simp [Table.get?]
    · split
      · simp [Table.get?]
      · rename_i h _
        simp only [Table.get?]
        rw [if_neg (fun e => h e.symm)]
        exact ih

theorem Table.get?_put_ne (t : Table α) (i k : Nat) (x : α) (h : i ≠ k) :
    (t.put i x).get? k = t.get? k := by
  induction t with
  | nil => simp [Table.put, Table.get?, h]
  | cons e rest ih =>
    obtain ⟨m, y⟩ := e
    unfold Table.put
    split
    · rename_i e; subst e; simp [Table.get?, h]
    · split
      · simp [Table.get?, h]
      · simp only [Table.get?]
        split
        · rfl
        · exact ih

theorem Table.get?_modify_self (t : Table α) (i : Nat) (f : α → α) :
    (t.modify i f).get? i = (t.get? i).map f := by
  unfold Table.modify
  split
  · rename_i x h; rw [Table.get?_put_self]; simp [h]
  · rename_i h; simp [h]

theorem Table.get?_modify_ne (t : Table α) (i k : Nat) (f : α → α) (h : i ≠ k) :
    (t.modify i f).get? k = t.get? k := by
  unfold Table.modify
  split
  · exact Table.get?_put_ne t i k _ h
  · rfl

theorem Table.get?_erase_self (t : Table α) (i : Nat) : (t.erase i).get? i = none := by
  induction t with
  | nil => rfl
  | cons e rest ih =>
    obtain ⟨k, y⟩ := e
    simp only [Table.erase, List.filter_cons]
    split
    · rename_i h
      have h : k ≠ i := by simpa using h
      rw [Table.get?, if_neg h]
      exact ih
    · exact ih

theorem Table.get?_erase_ne (t : Table α) (i k : Nat) (h : i ≠ k) :
    (t.erase i).get? k = t.get? k := by
  induction t with
  | nil => rfl
  | cons e rest ih =>
    obtain ⟨m, y⟩ := e
    simp only [Table.erase, List.filter_cons]
    split
    · simp only [Table.get?]
      split
      · rfl
      · exact ih
    · rename_i hm
      have hm : m = i := by simpa using hm
      subst hm
      rw [Table.get?, if_neg h]
      exact ih

theorem Table.wfFrom_put {limit i : Nat} (x : α) (hi : i < limit) :
    ∀ {low : Nat} {t : Table α}, Table.wfFrom limit low t = true → low ≤ i →
      Table.wfFrom limit low (t.put i x) = true
  | low, [], _, hl => by simp [Table.put, Table.wfFrom, hl, hi]
  | low, (k, y) :: rest, h, hl => by
    simp only [Table.wfFrom, Bool.and_eq_true, decide_eq_true_eq] at h
    unfold Table.put
    split
    · rename_i e; subst e; simp [Table.wfFrom, h]
    · split
      · rename_i hlt; simp [Table.wfFrom, h, hl, hi, Nat.succ_le_of_lt hlt]
      · simp only [Table.wfFrom, Bool.and_eq_true, decide_eq_true_eq]
        exact ⟨⟨h.1.1, h.1.2⟩, Table.wfFrom_put x hi h.2 (by omega)⟩

theorem Table.wf_put {limit i : Nat} {t : Table α} (x : α) (hi : i < limit) (h : t.wf limit = true) :
    (t.put i x).wf limit = true := Table.wfFrom_put x hi h (Nat.zero_le i)

theorem Table.wfFrom_weaken {limit : Nat} :
    ∀ {low low' : Nat} {t : Table α}, low' ≤ low → Table.wfFrom limit low t = true →
      Table.wfFrom limit low' t = true
  | _, _, [], _, _ => rfl
  | low, low', (k, y) :: rest, hl, h => by
    simp only [Table.wfFrom, Bool.and_eq_true, decide_eq_true_eq] at h ⊢
    exact ⟨⟨by omega, h.1.2⟩, h.2⟩

theorem Table.wfFrom_erase {limit i : Nat} :
    ∀ {low : Nat} {t : Table α}, Table.wfFrom limit low t = true →
      Table.wfFrom limit low (t.erase i) = true
  | _, [], h => h
  | low, (k, y) :: rest, h => by
    simp only [Table.wfFrom, Bool.and_eq_true, decide_eq_true_eq] at h
    have ih := Table.wfFrom_erase (i := i) h.2
    simp only [Table.erase, List.filter_cons]
    split
    · simp only [Table.wfFrom, Bool.and_eq_true, decide_eq_true_eq]
      exact ⟨h.1, ih⟩
    · exact Table.wfFrom_weaken (by omega) ih

theorem Table.wf_erase {limit i : Nat} {t : Table α} (h : t.wf limit = true) :
    (t.erase i).wf limit = true := Table.wfFrom_erase h

theorem Table.lt_of_get? {limit i : Nat} {x : α} :
    ∀ {low : Nat} {t : Table α}, Table.wfFrom limit low t = true → t.get? i = some x → i < limit
  | _, [], _, hx => by simp [Table.get?] at hx
  | low, (k, y) :: rest, h, hx => by
    simp only [Table.wfFrom, Bool.and_eq_true, decide_eq_true_eq] at h
    simp only [Table.get?] at hx
    split at hx
    · omega
    · exact Table.lt_of_get? h.2 hx

theorem Table.wf_modify {limit i : Nat} {t : Table α} (f : α → α) (h : t.wf limit = true) :
    (t.modify i f).wf limit = true := by
  unfold Table.modify
  split
  · rename_i x hx; exact Table.wf_put _ (Table.lt_of_get? h hx) h
  · exact h

theorem Table.firstFreeFrom_spec {t : Table α} :
    ∀ {fuel i n : Nat}, t.firstFreeFrom fuel i = some n →
      t.get? n = none ∧ i ≤ n ∧ n < i + fuel ∧ ∀ k, i ≤ k → k < n → (t.get? k).isSome
  | 0, _, _, h => by simp [Table.firstFreeFrom] at h
  | fuel + 1, i, n, h => by
    simp only [Table.firstFreeFrom] at h
    split at h
    · rename_i hn
      obtain rfl : i = n := by simpa using h
      exact ⟨by simpa using hn, Nat.le_refl _, by omega, fun k _ _ => by omega⟩
    · rename_i hn
      obtain ⟨h₁, h₂, h₃, h₄⟩ := Table.firstFreeFrom_spec h
      refine ⟨h₁, by omega, by omega, fun k hk hk' => ?_⟩
      by_cases e : k = i
      · subst e; simpa [Option.isNone_iff_eq_none, Option.isSome_iff_ne_none] using hn
      · exact h₄ k (by omega) hk'

/-- The first free index is below the limit, has no entry, and every index below it has one. -/
theorem Table.firstFree_spec {t : Table α} {limit n : Nat} (h : t.firstFree limit = some n) :
    t.get? n = none ∧ n < limit ∧ ∀ k, k < n → (t.get? k).isSome := by
  obtain ⟨h₁, _, h₃, h₄⟩ := Table.firstFreeFrom_spec h
  exact ⟨h₁, by omega, fun k hk => h₄ k (Nat.zero_le k) hk⟩

end Sys2Proof.Machine
end

