-- ==== Sys2Proof/Laws/Ops.lean ====
section
/-!
SUPPORT. What the shared operations do, said once: jobs, volumes, management frames, orders, errors and
prompts read back after the operation that writes them.
-/

namespace Sys2Proof.Machine

variable (s : State)

/-! ### Jobs -/

@[simp] theorem updateJob_job (n : Nat) (f : Job → Job) :
    (s.updateJob n f).job? n = (s.job? n).map f := Table.get?_modify_self _ _ _

theorem updateJob_job_ne (n m : Nat) (f : Job → Job) (h : n ≠ m) :
    (s.updateJob n f).job? m = s.job? m := Table.get?_modify_ne _ _ _ _ h

@[simp] theorem addJob_job (n : Nat) (j : Job) :
    (s.addJob n j).job? n = some { j with sequence := s.work.nextSequence } := Table.get?_put_self _ _ _

theorem addJob_job_ne (n m : Nat) (j : Job) (h : n ≠ m) : (s.addJob n j).job? m = s.job? m :=
  Table.get?_put_ne _ _ _ _ h

/-- A job made on a list that is not full takes the lowest free number, below 48 (R41). -/
theorem freeJob_spec (n : Nat) (h : s.freeJob = some n) :
    s.job? n = none ∧ n < 48 ∧ ∀ k, k < n → (s.job? k).isSome := Table.firstFree_spec h

/-! ### Volumes -/

@[simp] theorem updateVolume_volume (v : Nat) (f : Volume → Volume) :
    (s.updateVolume v f).volume? v = (s.volume? v).map f := Table.get?_modify_self _ _ _

theorem updateVolume_volume_ne (v u : Nat) (f : Volume → Volume) (h : v ≠ u) :
    (s.updateVolume v f).volume? u = s.volume? u := Table.get?_modify_ne _ _ _ _ h

@[simp] theorem raiseEvent_volume (c : NoticeClass) (d : NoticeData) (v : Nat) :
    (s.raiseEvent c d).volume? v = s.volume? v := by
  unfold State.raiseEvent; split <;> rfl

@[simp] theorem logError_volume (k : ErrorKind) (g : ErrorSeverity) (f : ErrorFields) (v : Nat) :
    (s.logError k g f).volume? v = s.volume? v := by
  simp [State.logError]; rfl

theorem displaceFrom_volume (v : Nat) (l : Location) : (s.displaceFrom v l).volume? v = s.volume? v := by
  unfold State.displaceFrom
  split
  · split
    · rename_i u e h
      have hu : u ≠ v := by
        have := List.find?_some h
        simp only [Bool.and_eq_true, decide_eq_true_eq] at this
        exact this.1
      rw [logError_volume, updateVolume_volume_ne s u v _ hu]
    · rfl
  · rfl

/-- A volume that moves is at its new place, with its other fields as they were (R4). -/
theorem moveVolume_volume (v : Nat) (l : Location) :
    (s.moveVolume v l).volume? v = (s.volume? v).map fun e => { e with location := l } := by
  unfold State.moveVolume
  split
  · rw [updateVolume_volume, displaceFrom_volume]
  · rename_i h; simp [h]

/-! ### Management frames (R184) -/

theorem managed_permitted (l : Link) (tag : Nat) (k : FrameKind) (act : State → State)
    (h : (s.intake.get l).permitted = true) : managed l tag k act s = .next (act s) := by
  simp [managed, h]

theorem managed_refused (l : Link) (tag : Nat) (k : FrameKind) (act : State → State)
    (h : (s.intake.get l).permitted = false) :
    managed l tag k act s = .next (s.respond l tag k .notPermitted) := by simp [managed, h]

/-- The items of a frame of one item. -/
theorem takeItems_one {ι : Type} (take : Nat → ι → State → State × Option ItemReport) (p : Nat) (i : ι) :
    takeItems take p [i] s = ((take p i s).1, (take p i s).2.toList) := by
  simp [takeItems]

/-! ### Errors (R196) -/

@[simp] theorem raiseEvent_errors (c : NoticeClass) (d : NoticeData) :
    (s.raiseEvent c d).errors = s.errors := congrArg Still.errors (raiseEvent_still s c d)

/-- Logging an error records its entry, and changes the log in no other way. -/
theorem logError_errors (k : ErrorKind) (g : ErrorSeverity) (f : ErrorFields) :
    (s.logError k g f).errors = s.errors.record (s.errorEntry k g f) := by simp [State.logError]

/-- A ring of at most 16 entries stays so, and its newest entry is the one recorded (R195, R196). -/
theorem record_ring (e : ErrorEntry) (log : ErrorLog) (h : log.ring.length ≤ 16) :
    (log.record e).ring.length ≤ 16 ∧ (log.record e).ring.getLast? = some e := by
  unfold ErrorLog.record
  dsimp only
  refine ⟨?_, by simp⟩
  split
  · simp only [List.length_append, List.length_singleton]; omega
  · simp only [List.length_append, List.length_drop, List.length_singleton]; omega

/-! ### Orders (R70 to R72) -/

/-- A sent order is the arm's order in flight under the tag it took, with its supervision running. -/
theorem sendOrder_arm (x : ArmId) (o : Order) :
    ((s.sendOrder x o).arm x).inFlight = some { tag := s.freeTag x, order := o } ∧
      ((s.sendOrder x o).arm x).supervision = .running (s.policy.supervisionTicks (o = .home)) := by
  cases x <;> exact ⟨rfl, rfl⟩

/-! ### Claims and matters that wait for a completion (R55, R61, R62, R64, R76) -/

/-- An arm that holds a claim is bounded by it. -/
theorem bound_claim {a : Arm} {c : Span} (h : a.claim = some c) : a.bound = some c := by
  simp [Arm.bound, h]

/-- A HOMING arm, whose claim is unset, is bounded by the one it held. -/
theorem bound_held {a : Arm} (h : a.claim = none) : a.bound = a.heldClaim := by simp [Arm.bound, h]

/-- A matter that waited settles the job. -/
theorem settleOr_some {n : Nat} {t : State} (goesOn : State → State) (h : s.settlePending n = some t) :
    s.settleOr n goesOn = t := by simp [State.settleOr, h]

/-- With none waiting the job goes on, turned home when its drive was taken and its reel is in a ring bay. -/
theorem settleOr_none {n : Nat} (goesOn : State → State) (h : s.settlePending n = none) :
    s.settleOr n goesOn = goesOn (s.turnTakenAtRing n) := by simp [State.settleOr, h]

/-- Letting go of an emptied drive changes the drives alone, and no drive's state. -/
theorem freeEmptied_cases (n : Nat) :
    s.freeEmptied n = s ∨ ∃ d, (s.drive d).state = .empty ∧ (s.drive d).job = some n ∧
      s.freeEmptied n = s.updateDrive d fun e => { e with job := none } := by
  unfold State.freeEmptied
  split
  · split
    · next h =>
      simp only [Bool.and_eq_true, decide_eq_true_eq] at h
      exact .inr ⟨_, h.1, h.2, rfl⟩
    · exact .inl rfl
  · exact .inl rfl

/-! ### The end of a job (R10, R44, R65) -/

/-- Once a CANCEL was accepted a job ends CANCELLED, whatever else ended it. -/
@[simp] theorem outcome_cancelled {j : Job} (frame : Option Lifecycle) (h : j.cancelled = true) :
    j.outcome frame = some .cancelled := by simp [Job.outcome, h]

/-- Without one a job ends with the outcome given. -/
@[simp] theorem outcome_given {j : Job} (frame : Option Lifecycle) (h : j.cancelled = false) :
    j.outcome frame = frame := by simp [Job.outcome, h]

/-- A change after which no further volume qualifies has no availability event. -/
theorem availability_none {before : State}
    (hs : s.newlyQualifies before .scratchPool = false) (hc : s.newlyQualifies before .cleanPool = false) :
    State.availability before s = s := by simp [State.availability, hs, hc]

/-! ### Claims (R76, R77) -/

/-- A span inside the claim, or one that keeps the rule of R76, becomes the arm's claim and the arm goes on. -/
theorem formClaim_granted {x : ArmId} {need : Span} (granted waits : State → State)
    (h : (s.arm x).covers need = true ∨ s.keepsRule x need = true) :
    s.formClaim x need granted waits = granted (s.updateArm x fun a => { a with claim := some need }) := by
  simp [State.formClaim, h]

/-- Otherwise the arm waits, and the other arm is sent a YIELD or nothing. -/
theorem formClaim_waits {x : ArmId} {need : Span} (granted waits : State → State)
    (hc : (s.arm x).covers need = false) (hk : s.keepsRule x need = false) :
    s.formClaim x need granted waits = waits s ∨ ∃ p, s.yieldPosition x need = some p ∧
      s.isIdle (otherArm x) = true ∧ s.formClaim x need granted waits = (waits s).giveYield (otherArm x) p := by
  simp only [State.formClaim, hc, hk, Bool.or_self, Bool.false_eq_true, if_false]
  split
  · next p hp =>
    split
    · next hi => exact .inr ⟨p, hp, hi, rfl⟩
    · exact .inl rfl
  · exact .inl rfl

/-! ### Prompts (R124) -/

/-- A reply that is not accepted is answered with its result and changes nothing else. -/
theorem takeReply_refused (c : Console) (n : Nat) (w : Word) (act : Prompt → State → State)
    (r : ReplyResult) (h : s.judgeReply c n w = r) (hr : r ≠ .accepted) :
    takeReply c n w act s = .next (s.replyResult c n r) := by
  unfold takeReply
  rw [h]
  split
  · exact absurd rfl hr
  · rfl

end Sys2Proof.Machine
end

