-- ==== Sys2Proof/Laws/Output.lean ====
section
/-!
SUPPORT. What the frames that go out on the wire are: parts numbered from 1 to their total under one kind and
tag, none longer than 60 bytes, each with its true CRC (R181, R182).
-/

namespace Sys2Proof.Machine

/-- A frame the part forms bears its true CRC (R181). -/
@[simp] theorem formFrame_crcGood (d o : Nat) (k : FrameKind) (tag total part : Nat) (p : List Byte) :
    (formFrame d o k tag total part p).crcGood = true := by
  simp [formFrame, WireFrame.crcGood, WireFrame.covered]

@[simp] theorem formTrain_length (d o : Nat) (k : FrameKind) (tag : Nat) (parts : List (List Byte)) :
    (formTrain d o k tag parts).length = parts.length := by simp [formTrain]

/-- Part `i + 1` of a content carries the payload at `i` (R182). -/
theorem formTrain_part (d o : Nat) (k : FrameKind) (tag : Nat) (parts : List (List Byte)) (i : Nat) :
    (formTrain d o k tag parts)[i]? =
      parts[i]?.map fun p => formFrame d o k tag parts.length (i + 1) (p.take 60) := by
  simp [formTrain]

/-- Every frame of a content has its true CRC and a payload of at most 60 bytes, whose count stands in its
length byte (R181). -/
theorem formTrain_good (d o : Nat) (k : FrameKind) (tag : Nat) (parts : List (List Byte)) (f : WireFrame)
    (h : f ∈ formTrain d o k tag parts) :
    f.crcGood = true ∧ f.payload.length ≤ 60 ∧ f.length = BitVec.ofNat 8 f.payload.length := by
  obtain ⟨i, hi⟩ := List.mem_iff_getElem?.mp h
  rw [formTrain_part, Option.map_eq_some_iff] at hi
  obtain ⟨p, -, rfl⟩ := hi
  exact ⟨formFrame_crcGood .., by simp [formFrame], rfl⟩

/-- Cut content fills between one and `fuel` parts. -/
theorem cutContent_length (fuel : Nat) (p : List Byte) : (cutContent fuel p).length ≤ fuel := by
  induction fuel generalizing p with
  | zero => simp [cutContent]
  | succ n ih => rw [cutContent]; split <;> simp [ih]

/-- Content that `fuel` parts can hold loses no byte. -/
theorem cutContent_flatten (fuel : Nat) (p : List Byte) (h : p.length ≤ 60 * fuel) :
    (cutContent fuel p).flatten = p := by
  induction fuel generalizing p with
  | zero => simp at h; simp [cutContent, h]
  | succ n ih =>
    rw [cutContent]
    split
    · simp
    · rw [List.flatten_cons, ih _ (by simp; omega), List.take_append_drop]

/-- No part of cut content is longer than 60 bytes, so `formTrain` drops none of it. -/
theorem cutContent_parts (fuel : Nat) (p q : List Byte) (h : q ∈ cutContent fuel p) : q.length ≤ 60 := by
  induction fuel generalizing p with
  | zero => simp [cutContent] at h
  | succ n ih =>
    rw [cutContent] at h
    split at h
    · simp at h; subst h; assumption
    · rcases List.mem_cons.mp h with rfl | h
      · simp
      · exact ih _ h

/-- The groups of three hold the entries in their order, when they can hold them all (R197). -/
theorem byThree_flatten (fuel : Nat) (es : List ErrorEntry) (h : es.length ≤ 3 * fuel) :
    (byThree fuel es).flatten = es := by
  induction fuel generalizing es with
  | zero => simp at h; simp [byThree, h]
  | succ n ih =>
    cases es with
    | nil => simp [byThree]
    | cons e rest =>
      rw [byThree, List.flatten_cons, ih _ (by simp at h ⊢; omega), List.cons_append, List.take_append_drop]

theorem byThree_length (fuel : Nat) (es : List ErrorEntry) : (byThree fuel es).length ≤ fuel := by
  induction fuel generalizing es with
  | zero => simp [byThree]
  | succ n ih => cases es <;> simp [byThree, ih]

/-- A response train has at most 8 parts; READ_RECORDS takes four records at most (R159, R182). -/
theorem responseParts_length (k : FrameKind) (r : Result)
    (h : ∀ taken left, r = .records taken left → taken.length ≤ 7) : (responseParts k r).length ≤ 8 := by
  cases r with
  | records taken left => simpa [responseParts] using Nat.lt_succ_of_le (h taken left rfl)
  | errors e =>
    have := byThree_length 6 e.entries
    simp [responseParts]; omega
  | _ => simp [responseParts, cutContent_length]

end Sys2Proof.Machine
end

