-- ==== Sys2Proof/WellFormed.lean ====
section
/-!
DEFINITION. The commands that the connections can carry: every value fits the field that holds it on the
wire, and a list of items has a length its frame allows. A value that fits its field and breaks a rule of
the spec is well formed here; the command's own rule refuses it.
-/

namespace Sys2Proof

/-- A value of one byte. -/
def byteFits (n : Nat) : Bool := n < 256

/-- A value of two bytes. -/
def wordFits (n : Nat) : Bool := n < 65536

/-- A value of three bytes. -/
def wideFits (n : Nat) : Bool := n < 16777216

/-- A code of six characters. -/
def codeFits (c : Code) : Bool := c.length = 6

/-- A cell address of three bytes. -/
def Cell.fits (c : Cell) : Bool := byteFits c.rack && byteFits c.column && byteFits c.level

/-- A home of a frame. -/
def Home.fits : Home → Bool
  | .cell c => c.fits
  | .shelf => true

/-- A list of items of a length its frame allows, each of which fits. -/
def itemsFit {ι : Type} (most : Nat) (fits : ι → Bool) (items : List ι) : Bool :=
  1 ≤ items.length && items.length ≤ most && items.all fits

/-- The content of a MOUNT fits its 15 bytes (R186). -/
def MountRequest.fits (r : MountRequest) : Bool :=
  byteFits r.drive && codeFits r.serial && codeFits r.account && byteFits r.priority

/-- The content of a CANCEL fits its 2 bytes (R186). -/
def CancelTarget.fits : CancelTarget → Bool
  | .byTag t => byteFits t
  | .byNumber n => byteFits n

/-- An item of ADD_VOLUMES fits (R11). -/
def AddItem.fits (i : AddItem) : Bool :=
  codeFits i.serial && i.home.fits && codeFits i.owner && byteFits i.usesLeft

/-- What a READ_VOLUME names fits (R14). -/
def VolumeQuery.fits : VolumeQuery → Bool
  | .bySerial c => codeFits c
  | .byIndex i => wordFits i

/-- An item of LOAD_GEOMETRY fits (R16). -/
def GeometryItem.fits : GeometryItem → Bool
  | .column rack col position => byteFits rack && byteFits col && wordFits position
  | .drive d position => byteFits d && wordFits position
  | .ringBay b position => byteFits b && wordFits position
  | .hatchBay b position => byteFits b && wordFits position
  | .separation value => wordFits value

/-- An item of LOAD_DRIVES fits (R23). -/
def DriveItem.fits (i : DriveItem) : Bool :=
  byteFits i.drive && byteFits i.driveClass && byteFits i.owningLink && byteFits i.threshold &&
    byteFits i.cleanInterval

/-- An item of LOAD_ACCOUNTS fits (R152). -/
def AccountItem.fits (i : AccountItem) : Bool :=
  byteFits i.index && codeFits i.code && wordFits i.allowance

/-- A tariff fits; a transfer rate and the grace are one byte, 0 to 255 (R143). -/
def TariffFrame.fits (t : TariffFrame) : Bool :=
  byteFits t.bandCount && t.starts.items.all wideFits && (t.rates.items.all fun r => r.items.all wordFits) &&
    t.fees.items.all wordFits && t.transfers.items.all byteFits && byteFits t.grace

/-- An item of SET_POLICY fits (R191). -/
def PolicyItem.fits : PolicyItem → Bool
  | .exponent _ value => byteFits value
  | .escalationCount value => byteFits value
  | .highWater value => byteFits value
  | .permission link _ => byteFits link
  | .approveDefault _ | .unknown => true

/-- An item of SET_NOTICES fits (R201). -/
def NoticeItem.fits : NoticeItem → Bool
  | .noticeLink link => byteFits link
  | .raiseEnable _ _ | .clearEnable _ _ | .clearOnRead _ | .unknown => true

/-- A compensation fits its signed byte, −128 to +127 (R136). -/
def compensationFits (c : Int) : Bool := -128 ≤ c && c ≤ 127

/-- The times of a SET_CLOSE: at most three, of three bytes each, and none unless the mode is SHIFTS
(R141). -/
def closeTimesFit (mode : CloseMode) (times : List Nat) : Bool :=
  times.length ≤ 3 && times.all wideFits && (mode = .shifts || times.isEmpty)

/-- The counts of a USAGE: blocks of three bytes, correctable errors of one (R32, R149). -/
def usageFits (blocksRead blocksWritten correctable : Nat) : Bool :=
  wideFits blocksRead && wideFits blocksWritten && byteFits correctable

/-- A command that its connection can carry. -/
def Instr.wellFormed : Instr → Bool
  | .powerOn _ | .resetLine | .doorOpen | .doorClose | .linkFrameArrival _ _ => true
  | .mount _ tag r => byteFits tag && r.fits
  | .demount _ tag drive _ priority => byteFits tag && byteFits drive && byteFits priority
  | .cancel _ tag target => byteFits tag && target.fits
  | .queryVolume _ tag serial => byteFits tag && codeFits serial
  | .addVolumes _ tag items => byteFits tag && itemsFit 8 AddItem.fits items
  | .deleteVolume _ tag serial => byteFits tag && codeFits serial
  | .setHome _ tag serial home => byteFits tag && codeFits serial && home.fits
  | .readVolume _ tag query => byteFits tag && query.fits
  | .loadGeometry _ tag items => byteFits tag && itemsFit 16 GeometryItem.fits items
  | .loadDrives _ tag items => byteFits tag && itemsFit 16 DriveItem.fits items
  | .loadAccounts _ tag items => byteFits tag && itemsFit 16 AccountItem.fits items
  | .loadTariff _ tag tariff => byteFits tag && tariff.fits
  | .loadRouting _ tag items => byteFits tag && itemsFit 15 (fun _ => true) items
  | .setPolicy _ tag items => byteFits tag && itemsFit 16 PolicyItem.fits items
  | .setClock _ tag day second => byteFits tag && wordFits day && wideFits second
  | .adjustClock _ tag compensation => byteFits tag && compensationFits compensation
  | .roundClock _ tag | .readClock _ tag | .closePeriod _ tag | .readRecords _ tag | .readErrors _ tag
  | .clearErrors _ tag | .readNotices _ tag | .readStatus _ tag | .clearResetCause _ tag | .start _ tag
  | .quiesce _ tag | .resetWarm _ tag => byteFits tag
  | .setClose _ tag mode times => byteFits tag && closeTimesFit mode times
  | .readClosed _ tag index | .readAccount _ tag index => byteFits tag && byteFits index
  | .clearNotices _ tag _ => byteFits tag
  | .setNotices _ tag items => byteFits tag && itemsFit 16 NoticeItem.fits items
  | .eject _ tag serial priority | .enter _ tag serial priority =>
    byteFits tag && codeFits serial && byteFits priority
  | .ready _ _ label => label.all codeFits
  | .unloaded _ | .check _ _ | .driveStatus _ _ => true
  | .usage _ blocksRead blocksWritten correctable => usageFits blocksRead blocksWritten correctable
  | .completionDone tag position _ => byteFits tag && decide (position ≤ 1023)
  | .completionFault tag position _ => byteFits tag && decide (position ≤ 1023)
  | .loadTimeout _ | .cleanTimeout _ | .motionTimeout _ => true
  | .agingExpiry job => job < 48
  | .reminder prompt | .limitExpiry prompt | .deferExpiry _ prompt => 1 ≤ prompt && prompt ≤ 9999
  | .secondAdvance => true
  | .replyDefer _ prompt | .replyDone _ prompt | .replyCancel _ prompt | .replyApprove _ prompt
  | .replyDeny _ prompt | .replyRetry _ prompt | .replyInCell _ prompt | .replyOutside _ prompt
  | .replyRestored _ prompt | .replyParked _ prompt | .replyRemoved _ prompt => wordFits prompt
  | .recall _ | .refresh _ | .timeBaseTick | .robotLinkFrameDiscarded _
  | .consoleFrameDiscarded _ _ => true

end Sys2Proof
end

