-- ==== Sys2Proof/Tests/Slice0.lean ====
section
/-!
SUPPORT. The model's own tests: ill-formed commands that the well-formedness check refuses, the spec's
worked examples, and for each statement a state and operands that meet its hypotheses.
-/

open Sys2Proof Sys2Proof.Machine

namespace Sys2Proof.Tests

/-! ### A small library -/

/-- A code from its characters. -/
def code (s : String) : Code := s.toList

/-- A bank of four. -/
def bank4 {α : Type} (a b c d : α) : Bank α 4 := ⟨[a, b, c, d], rfl⟩

/-- A reel in its cell. -/
def reel (serial : String) (c : Cell) : Volume :=
  { serial := code serial, home := .cell c, location := .cell, pool := .privatePool, ring := .ringIn
    suspect := false, owner := 0, usesLeft := 0, mountCount := 0, lastMountDay := none }

/-- A reel kept on the SHELF. -/
def shelved (serial : String) : Volume := { reel serial ⟨0, 0, 0⟩ with home := .shelf, location := .shelf }

/-- An arm idle at a position. -/
def idleArm (p : Nat) : Arm := { Arm.powerOn p with state := .idle, position := some p, claim := pointClaim p }

/-- A configured drive of link 0. -/
def readyDrive : Drive := { Drive.powerOn with configured := true }

/-- A library in RUN: drives 0 to 2, reels 0 and 1 in their cells and 2 on the SHELF, both arms idle. -/
def lib : State :=
  { State.reset with
    control := { mode := .run, quiesceForced := false, door := .closed }
    map := { State.reset.map with
      volumes := [(0, reel "AAA000" ⟨0, 0, 0⟩), (1, reel "AAA001" ⟨0, 1, 2⟩), (2, shelved "AAA002")]
      columns := [(0, 40), (1, 60)]
      drivePositions := ((State.reset.map.drivePositions.set 0 (some 100)).set 1 (some 130)).set 2 (some 160)
      ringPositions := Bank.replicate 2 (some 500)
      hatchPositions := Bank.replicate 4 (some 600) }
    drives := ((State.reset.drives.set 0 readyDrive).set 1 readyDrive).set 2 readyDrive
    arms := { armA := idleArm 100, armB := idleArm 900, tagCounter := 0 }
    clock := { State.reset.clock with state := .running, day := 10, second := 36000 } }

/-- The library in another mode. -/
def inMode (m : Mode) (s : State) : State := { s with control := { s.control with mode := m } }

/-- The state with one volume at an index. -/
def withVolume (v : Nat) (e : Volume) (s : State) : State :=
  { s with map := { s.map with volumes := s.map.volumes.put v e } }

/-- The state with one drive changed. -/
def withDrive (d : DriveId) (e : Drive) (s : State) : State := { s with drives := s.drives.set d e }

/-- The state with one job. -/
def withJob (n : Nat) (j : Job) (s : State) : State :=
  { s with work := { s.work with jobs := s.work.jobs.put n j } }

/-- The state with one arm changed. -/
def withArm (x : ArmId) (f : Arm → Arm) (s : State) : State := s.updateArm x f

/-- An arm with an order in flight under tag 5. -/
def flying (o : Order) (a : Arm) : Arm :=
  { a with state := .moving, inFlight := some { tag := 5, order := o }, supervision := .running 64 }

/-- A job for drive 0 and volume 0, of admission sequence 7, from link 1 under tag 9. -/
def work (kind : JobKind) (state : JobState) : Job :=
  { newJob kind 7 with
    origin := some { link := 1, tag := 9 }, drive := some 0, volume := some 0
    serial := some (code "AAA000"), state := state }

/-- A prompt of a kind and owner under number 1, shown on console 0. -/
def asked (k : PromptKind) (o : Owner) : Prompt :=
  { number := 1, kind := k, severity := kindSeverity k, owner := o, params := {}
    allowed := kindReplies k true, targets := { console0 := true, console1 := true }, escalated := false
    posted := { day := 0, second := 0 }, reminders := 0, reminderTimer := .running 10
    deferTimers := Bank.replicate 2 .stopped, limitTimer := .running 20 }

/-- The state with that prompt open and shown on console 0. -/
def withPrompt (p : Prompt) (s : State) : State :=
  { s with desk := { s.desk with
      prompts := [p]
      consoles := s.desk.consoles.set 0 { area := [1], deferred := [] } } }

/-- An occupancy on account 3. -/
def sitting : Occupancy :=
  { account := 3, mountKind := .robot, volume := some 0, origin := none
    start := { day := 10, second := 100 }, recordStart := { day := 10, second := 100 }
    bandSeconds := Bank.replicate 4 0, graceLeft := 0, feePending := true
    blocksRead := 0, blocksWritten := 0, correctable := 0 }

/-- Drive 0 with that occupancy, in a state. -/
def sat (state : DriveState) : Drive := { readyDrive with state := state, occupancy := some sitting }

/-- A frame with its true CRC, of total 1 part 1 unless `train` says otherwise. -/
def frame (destination : Byte) (k : FrameKind) (train : Byte) (payload : List Byte) : WireFrame :=
  let f : WireFrame :=
    { destination := destination, origin := 0#8, kind := { byte := 1#8, name := k }, tag := 9#8
      length := BitVec.ofNat 8 payload.length, train := train, payload := payload, crc := 0#16 }
  { f with crc := crc16 f.covered }

/-! ### Ill-formed commands are refused -/

theorem test_illformed_tag : Instr.wellFormed (.readClock 0 256) = false := by decide
theorem test_illformed_serial : Instr.wellFormed (.queryVolume 0 1 (code "AAA00")) = false := by decide
theorem test_illformed_mount_drive : Instr.wellFormed
    (.mount 0 1 ⟨256, 0#8, code "AAA000", blankCode, 0⟩) = false := by decide
theorem test_illformed_mount_account : Instr.wellFormed
    (.mount 0 1 ⟨0, 0#8, code "AAA000", code "TOOLONG", 0⟩) = false := by decide
theorem test_illformed_demount : Instr.wellFormed (.demount 0 1 0 true 256) = false := by decide
theorem test_illformed_cancel : Instr.wellFormed (.cancel 0 1 (.byNumber 256)) = false := by decide
theorem test_illformed_no_items : Instr.wellFormed (.addVolumes 0 1 []) = false := by decide
theorem test_illformed_many_items : Instr.wellFormed
    (.loadRouting 0 1 (List.replicate 16 ⟨none, ⟨true, true⟩⟩)) = false := by decide
theorem test_illformed_add_item : Instr.wellFormed
    (.addVolumes 0 1 [⟨code "AAA000", .cell ⟨0, 256, 0⟩, .privatePool, .ringIn, blankCode, 0⟩]) = false := by
  decide
theorem test_illformed_home : Instr.wellFormed
    (.setHome 0 1 (code "AAA000") (.cell ⟨0, 0, 256⟩)) = false := by decide
theorem test_illformed_index : Instr.wellFormed (.readVolume 0 1 (.byIndex 65536)) = false := by decide
theorem test_illformed_geometry : Instr.wellFormed (.loadGeometry 0 1 [.drive 0 65536]) = false := by decide
theorem test_illformed_drive_item : Instr.wellFormed
    (.loadDrives 0 1 [⟨0, true, 0, 0, false, 256, 0⟩]) = false := by decide
theorem test_illformed_account_item : Instr.wellFormed
    (.loadAccounts 0 1 [⟨1, code "ACC001", 65536⟩]) = false := by decide
theorem test_illformed_tariff : Instr.wellFormed (.loadTariff 0 1
    ⟨1, Bank.replicate 4 0, Bank.replicate 4 (Bank.replicate 4 0), Bank.replicate 4 0, Bank.replicate 4 0,
      256⟩) = false := by decide
theorem test_illformed_policy : Instr.wellFormed (.setPolicy 0 1 [.highWater 256]) = false := by decide
theorem test_illformed_notice : Instr.wellFormed (.setNotices 0 1 [.noticeLink 256]) = false := by decide
theorem test_illformed_clock : Instr.wellFormed (.setClock 0 1 0 16777216) = false := by decide
theorem test_illformed_compensation : Instr.wellFormed (.adjustClock 0 1 128) = false := by decide
theorem test_illformed_close : Instr.wellFormed (.setClose 0 1 .daily [0]) = false := by decide
theorem test_illformed_account_index : Instr.wellFormed (.readAccount 0 1 256) = false := by decide
theorem test_illformed_move : Instr.wellFormed (.eject 0 1 (code "AAA000") 256) = false := by decide
theorem test_illformed_label : Instr.wellFormed (.ready 0 true (some [])) = false := by decide
theorem test_illformed_usage : Instr.wellFormed (.usage 0 16777216 0 0) = false := by decide
theorem test_illformed_position : Instr.wellFormed (.completionDone 1 1024 false) = false := by decide
theorem test_illformed_fault_tag : Instr.wellFormed (.completionFault 256 0 .blocked) = false := by decide
theorem test_illformed_job : Instr.wellFormed (.agingExpiry 48) = false := by decide
theorem test_illformed_prompt : Instr.wellFormed (.reminder 0) = false ∧
    Instr.wellFormed (.deferExpiry 0 10000) = false := by decide
theorem test_illformed_reply : Instr.wellFormed (.replyDone 0 65536) = false := by decide

/-! ### Worked examples of the spec -/

/-- No row of the opcode table has bits. -/
theorem test_no_word_decodes : decodeTableWord 8 0 = none := rfl

/-- The CRC of the nine characters 1 to 9 is 29B1, the check value known for this polynomial and initial
value (PRESUMED: from outside the spec). -/
theorem test_crc :
    crc16 [0x31#8, 0x32#8, 0x33#8, 0x34#8, 0x35#8, 0x36#8, 0x37#8, 0x38#8, 0x39#8] = 0x29B1#16 := by
  decide +kernel

/-- The state a command leaves. -/
def run (c : Instr) (s : State) : State :=
  match exec c s with
  | .next t => t
  | .fault _ | .refused _ => State.reset

/-- The START check of chapter 1: drives 0, 1 and 5 at 100, 130 and 118 under a separation of 24. -/
def spaced (separation fifth : Nat) : State :=
  { withDrive 5 readyDrive (withDrive 2 Drive.powerOn lib) with
    map := { lib.map with
      drivePositions := lib.map.drivePositions.set 5 (some fifth), separation := separation } }

theorem test_start_check_pair_0_5 : (spaced 24 118).startFailure = some (.driveSpacing 0 5) := by decide
theorem test_start_check_pair_0_1 : (spaced 64 160).startFailure = some (.driveSpacing 0 1) := by decide
theorem test_start_check_passes : (spaced 20 160).startFailure = none := by decide

/-- The map of the ADD_VOLUMES example of chapter 1. -/
def payMap : State :=
  { lib with map := { lib.map with
      volumes := [(0, reel "PAY001" ⟨0, 0, 0⟩), (1, reel "PAY002" ⟨0, 0, 1⟩),
        (3, { reel "SCR100" ⟨0, 0, 3⟩ with location := .drive 4 })]
      columns := [(0, 40), (21, 80)] } }

/-- The five items of the ADD_VOLUMES example. -/
def payItems : List AddItem :=
  [⟨code "SCR101", .cell ⟨0, 0, 2⟩, .scratchPool, .ringIn, blankCode, 0⟩,
    ⟨code "PAY002", .cell ⟨1, 5, 0⟩, .privatePool, .ringIn, blankCode, 0⟩,
    ⟨code "CLN001", .cell ⟨0, 0, 3⟩, .cleanPool, .ringIn, blankCode, 40⟩,
    ⟨code "ARC900", .cell ⟨9, 0, 7⟩, .privatePool, .ringIn, blankCode, 0⟩,
    ⟨code "SCR101", .shelf, .scratchPool, .ringIn, blankCode, 0⟩]

theorem test_add_volumes_example : (takeItems addItem 1 payItems payMap).2 =
    [.index 2, .refused 2 .serialPresent, .refused 3 .homeInUse, .refused 4 .columnUnset,
      .refused 5 .serialPresent] := by decide

/-- The tariff of the first example of chapter 8. -/
def dayTariff : Tariff :=
  { starts := [0, 28800, 61200]
    rates := Bank.replicate 4 (bank4 0 12 5 0)
    fees := bank4 6 0 0 0, transfers := Bank.replicate 4 2, grace := 90 }

/-- An occupancy with these seconds of bands 1 and 2 and 2,400 blocks read. -/
def used (s1 s2 : Nat) (fee : Bool) : Occupancy :=
  { sitting with bandSeconds := bank4 0 s1 s2 0, feePending := fee, blocksRead := 2400 }

theorem test_charge_final : exactCharge dayTariff 2 (used 10 230 true) true = 44 := by decide
theorem test_charge_partial : exactCharge dayTariff 2 (used 10 90 true) false = 28 := by decide
theorem test_charge_after_partial : exactCharge dayTariff 2 (used 0 140 false) true = 21 := by decide
theorem test_charge_bands : (dayTariff.band 28799, dayTariff.band 28800, dayTariff.band 61200) = (0, 1, 2) := by
  decide

theorem test_charge_saturates : exactCharge
    { dayTariff with rates := Bank.replicate 4 (bank4 300 450 0 0), fees := bank4 0 0 0 1000 } 0
    { sitting with mountKind := .foreign, bandSeconds := bank4 864000 1727940 0 0 } true = 17280550 := by
  decide

/-- The clock of the compensation example of chapter 7. -/
def hourClock (compensation : Int) : State :=
  { lib with clock := { lib.clock with second := 35999, tick := 63, compensation := compensation } }

theorem test_compensation_added : let t := run .timeBaseTick (hourClock 100)
    (t.clock.second, t.clock.tick, t.clock.ticksToDrop) = (36001, 36, 0) := by decide
theorem test_compensation_dropped : let t := run .timeBaseTick (hourClock (-100))
    (t.clock.second, t.clock.tick, t.clock.ticksToDrop) = (36000, 0, 100) := by decide

/-- Jobs 11, 12 and 13 of the aging example of chapter 3, under their effective priorities. -/
def aged (p11 p12 p13 : Nat) : State :=
  withJob 11 { work .mount .waiting with sequence := 500, effective := p11 }
    (withJob 12 { work .demount .waiting with sequence := 503, effective := p12 }
      (withJob 13 { work .mount .waiting with sequence := 504, effective := p13 } lib))

theorem test_assignment_order_12_30 : (aged 2 1 2).inOrder (fun _ => true) = [11, 13, 12] := by decide
theorem test_assignment_order_13_30 : (aged 2 2 2).inOrder (fun _ => true) = [12, 11, 13] := by decide

/-- The rail of the yield example of chapter 4 at its step 3. -/
def rail : State :=
  { lib with
    map := { lib.map with
      columns := [(0, 200)], hatchPositions := lib.map.hatchPositions.set 1 (some 700) }
    arms := { armA := idleArm 120, armB := idleArm 300, tagCounter := 11 } }

theorem test_yield_example : let legs : List Leg := [.fetch ⟨0, 0, 0⟩, .hatchPut (some 1)]
    rail.neededSpan .a legs none = { low := 120, high := 700 } ∧
      rail.keepsRule .a { low := 120, high := 700 } = false ∧
      rail.yieldPosition .a { low := 120, high := 700 } = some 724 := by decide

theorem test_full_queue : (run (.readRecords 0 1)
    { lib with accounting := { lib.accounting with
      records := List.replicate 5 (lib.occupancyRecord 0 sitting true) } }).accounting.records.length = 1 := by
  decide

/-- The layouts of R192 and R193 have 21, 59, 39 and 7 bytes. -/
theorem test_layout_lengths :
    (volumeEntryBytes { index := 0, volume := reel "AAA000" ⟨0, 0, 0⟩, job := none }).length = 21 ∧
    (recordBytes (lib.occupancyRecord 0 sitting true)).length = 59 ∧
    (showBytes (asked .armFault (.arm .a)).shown).length = 39 ∧
    (robotBytes .stop).length = 7 ∧ (robotBytes (.order .b 5 (.fetch ⟨1, 2, 3⟩) (some 40))).length = 7 := by
  decide

/-- The response to a READ_RECORDS that takes two records of three: a first frame and a frame of 59 bytes for
each record, to destination 17 under the request's tag (R185, R188, R192). -/
theorem test_records_train :
    let r := lib.occupancyRecord 0 sitting true
    let frames := Sent.frames (.link 0 (.response 9 .readRecords (.records [r, r] 1)))
    frames.map (fun f => (f.destination.toNat, f.tag.toNat, f.train.toNat)) =
        [(17, 9, 0x31), (17, 9, 0x32), (17, 9, 0x33)] ∧
      (frames.drop 1).map (fun f => f.length.toNat) = [59, 59] := by decide +kernel

/-- START from CONFIGURE with the door OPEN sends nothing on the robot link (R171). -/
theorem test_start_door_open : let s := { lib with
      control := { mode := .configure, quiesceForced := false, door := .opened } }
    Sent.robot .stop ∉ (run (.start 0 1) s).sent ∧ (run (.start 0 1) s).mode = .safe .run := by decide

/-! ### The hypotheses of the statements are met

Each theorem shows a state and operands that meet the hypotheses of the statement its name ends with, or of
one of its clauses. -/

/-- A READ_CLOCK in an intake queue. -/
def clockFrame : IntakeFrame := { kind := .readClock, tag := 7, payload := [] }

/-- The library with a READ_CLOCK in the intake queues of these links. -/
def queued (ls : List Link) : State :=
  { lib with intake := ls.foldl (fun b l => b.update l fun i => { i with queue := [clockFrame] }) lib.intake }

theorem test_meets_StepServesTheIntake_idle :
    lib.pending = [] ∧ ∀ l : Link, (lib.intake.get l).queue = [] := by decide
theorem test_meets_StepServesTheIntake_one : (queued [3]).pending = [] ∧
    ((queued [3]).intake.get 3).queue = [clockFrame] ∧
    (∀ k : Link, k ≠ 3 → ((queued [3]).intake.get k).queue = []) ∧
    frameCommand 3 clockFrame = some (.readClock 3 7) := by decide
theorem test_meets_StepServesTheIntake_several : (queued [0, 3]).pending = [] ∧
    (∃ l : Link, ((queued [0, 3]).intake.get l).queue ≠ []) ∧
    ∀ (l : Link) (f : IntakeFrame) (rest : List IntakeFrame),
      ((queued [0, 3]).intake.get l).queue = f :: rest → (frameCommand l f).isSome = true := by
  refine ⟨by decide, by decide, fun l f rest h => ?_⟩
  fin_cases l <;> cases h <;> rfl

theorem test_meets_QueueAndSentFramesStand :
    exec .timeBaseTick lib = .next (run .timeBaseTick lib) ∧ ∀ door, Instr.timeBaseTick ≠ .powerOn door :=
  ⟨rfl, fun _ h => nomatch h⟩

/-- The library with a command waiting. -/
def waiting : State := { lib with pending := [.readClock 0 7] }

theorem test_meets_LawsKept : step waiting = .next (run (.readClock 0 7) lib) ∧ intakeInvariant waiting ∧
    storesInvariant waiting ∧ mapInvariant waiting := ⟨rfl, by decide, by decide, by decide⟩

theorem test_meets_NotPermitted :
    ¬permits lib 1 ∧ Instr.management (.readClock 1 7) = some (1, 7, .readClock) := by decide
theorem test_meets_WarmResets : permits lib 0 := by decide
theorem test_meets_ReadsChangeNothing : permits lib 0 ∧ 63 < 64 := by decide

/-- The library with a reel at the last volume index. -/
def lastEntry : State := withVolume 4095 (reel "AAA003" ⟨0, 0, 3⟩) lib

/-- The library with an empty map. -/
def bare : State := { lib with map := { lib.map with volumes := [] } }

theorem test_meets_ReadsChangeNothing_found : mapInvariant lastEntry ∧ permits lastEntry 0 ∧
    lastEntry.volume? 4095 = some (reel "AAA003" ⟨0, 0, 3⟩) ∧
    serialGood (reel "AAA003" ⟨0, 0, 3⟩).serial = true ∧
    ∀ u, 4094 ≤ u → u < 4095 → lastEntry.volume? u = none := by
  refine ⟨by decide, by decide, by decide, by decide, fun u h₁ h₂ => ?_⟩
  obtain rfl : u = 4094 := by omega
  decide
theorem test_meets_ReadsChangeNothing_absent : mapInvariant bare ∧ permits bare 0 ∧
    (∀ v e, bare.volume? v = some e → e.serial ≠ code "AAA000") ∧
    serialGood (code "AAA000") = true ∧ serialGood blankCode = false ∧
    ∀ v, 0 ≤ v → bare.volume? v = none :=
  ⟨by decide, by decide, fun _ _ h => (Option.some_ne_none _ h.symm).elim, by decide, by decide,
    fun _ _ => rfl⟩

theorem test_meets_DoorMoved_open : lib.control.mode ≠ .configure ∧ lib.control.mode.isSafe = false ∧
    State.reset.control.mode = .configure ∧ (inMode (.safe .run) lib).control.mode.isSafe = true := by decide

/-- SAFE over RUN with arm A flying a HOME, its supervision held, and arm B DISABLED. -/
def shut : State :=
  withArm .a (fun a => { flying .home a with supervision := .held 64 })
    (withArm .b (fun a => { a with state := .disabled }) (inMode (.safe .run) lib))

theorem test_meets_DoorMoved_close_flying : shut.control.mode = .safe .run ∧ (shut.arm .a).isHomed = true ∧
    (shut.arm .a).inFlight ≠ none ∧ (shut.arm .b).isHomed = false := by decide
theorem test_meets_DoorMoved_close_still : (inMode (.safe .quiesced) lib).control.mode = .safe .quiesced ∧
    ((inMode (.safe .quiesced) lib).arm .a).isHomed = true ∧
    ((inMode (.safe .quiesced) lib).arm .a).inFlight = none ∧
    (inMode .configure lib).control.mode = .configure := by decide

/-- The library's configuration is complete. -/
theorem ready_lib : readyToStart lib := by
  refine ⟨by decide, by decide, by decide, fun u h k hk => ?_, fun i j p q hij hi hj hp hq => ?_, by decide,
    by decide⟩
  · have h' : u = (0, reel "AAA000" ⟨0, 0, 0⟩) ∨ u = (1, reel "AAA001" ⟨0, 1, 2⟩) ∨
        u = (2, shelved "AAA002") := by simpa [lib] using h
    rcases h' with rfl | rfl | rfl <;> cases hk <;> decide
  · have apart : ∀ i j : DriveId, i < j → (lib.drive i).configured = true →
        (lib.drive j).configured = true →
        (lib.map.drivePositions.get i).getD 0 + 24 ≤ (lib.map.drivePositions.get j).getD 0 := by decide
    have := apart i j hij hi hj
    rw [hp, hq] at this
    exact .inl this

/-- START's validation reads neither the modes nor the arms. -/
theorem ready_of (c : ModeControl) (a : ArmControl) : readyToStart { lib with control := c, arms := a } :=
  ready_lib
theorem test_meets_StartTaken_running : permits lib 0 ∧ lib.mode.governing = some .run := by decide
theorem test_meets_StartTaken_ready : permits (inMode .configure lib) 0 ∧
    (inMode .configure lib).mode.governing ≠ some .run ∧ readyToStart (inMode .configure lib) :=
  ⟨by decide, by decide, ready_of _ _⟩
theorem test_meets_StartTaken_incomplete : permits State.reset 0 ∧
    State.reset.mode.governing ≠ some .run ∧ ¬readyToStart State.reset :=
  ⟨by decide, by decide, fun h => absurd h.2.2.2.2.2.1 (by decide)⟩

/-- The library in a mode with the door as given, both arms UNHOMED. -/
def parkedIn (m : Mode) (door : DoorState) : State :=
  { lib with
    control := { mode := m, quiesceForced := false, door := door }
    arms := State.reset.arms }

theorem test_meets_StartTaken_accepted (m : Mode) (door : DoorState) (h : m.governing ≠ some .run) :
    permits (parkedIn m door) 0 ∧ (parkedIn m door).mode.governing ≠ some .run ∧
      readyToStart (parkedIn m door) ∧ (parkedIn m door).mode = m ∧
      (parkedIn m door).control.door = door ∧ ((parkedIn m door).arm .a).isHomed = true ∧
      ((parkedIn m door).arm .a).isSettled = false :=
  ⟨rfl, h, ready_of _ _, rfl, rfl, rfl, rfl⟩
theorem test_meets_StartTaken_accepted_modes : Mode.configure.governing ≠ some .run ∧
    Mode.quiesced.governing ≠ some .run ∧ Mode.quiescing.governing ≠ some .run ∧
    (Mode.safe .quiescing).governing ≠ some .run ∧ (Mode.homing .quiesced).governing ≠ some .run := by decide

/-- A mode with arm A flying an order. -/
def flyingIn (m : Mode) : State := withArm .a (flying (.fetch ⟨0, 0, 0⟩)) (inMode m lib)

theorem test_meets_QuiesceAccepted_flying : permits (flyingIn .run) 0 ∧ (flyingIn .run).mode = .run ∧
    ((flyingIn .run).arm .a).inFlight ≠ none ∧ (flyingIn .quiescing).mode = .quiescing ∧
    ((flyingIn .quiescing).arm .a).inFlight ≠ none := by decide
theorem test_meets_QuiesceAccepted_still : permits lib 0 ∧ lib.mode = .run ∧ lib.work.jobs = [] ∧
    ∀ x, (lib.arm x).inFlight = none ∧ (lib.arm x).nextOrder = none :=
  ⟨by decide, by decide, by decide, fun x => by cases x <;> decide⟩
theorem test_meets_QuiesceAccepted_modes : permits State.reset 0 ∧ State.reset.mode = .configure ∧
    (inMode (.safe .run) lib).mode = .safe .run ∧ (inMode (.safe .quiescing) lib).mode = .safe .quiescing ∧
    (parkedIn (.homing .run) .closed).mode = .homing .run ∧
    ((parkedIn (.homing .run) .closed).arm .a).isSettled = false ∧
    (inMode .quiesced lib).mode = .quiesced ∧ (inMode .quiesced lib).mode ≠ .configure := by decide

/-- A MOUNT of a serial on drive 0, to read. -/
def wants (serial : String) : MountRequest :=
  { drive := 0, flags := 0#8, serial := code serial, account := blankCode, priority := 3 }

theorem test_meets_MountAdmitted : mountAdmits lib 0 1 (wants "AAA000") 0 0 ∧
    lib.mountVolume (wants "AAA000") = some 0 := by decide

/-- The library with both arms MOVING. -/
def busy : State :=
  withArm .a (fun a => { a with state := .moving }) (withArm .b (fun a => { a with state := .moving }) lib)

/-- `busy` with volume 0 as given. -/
def holding (e : Volume) : State := withVolume 0 e busy

/-- A job that takes volume 0 home under number 5. -/
def homeward (s : State) : State := withJob 5 { work .demount .waiting with drive := some 1 } s

/-- The hypotheses of MountHeldOrWaiting for a MOUNT of volume 0 in a state. -/
abbrev mounts (s : State) (n : Nat) (e : Volume) : Prop :=
  mountAdmits s 0 1 (wants "AAA000") 0 n ∧ s.mountVolume (wants "AAA000") = some 0 ∧
    s.volume? 0 = some e ∧ noIdleArm s ∧ s.desk.prompts.length < 32

theorem test_meets_MountHeldOrWaiting_suspect : let e := { reel "AAA000" ⟨0, 0, 0⟩ with suspect := true }
    mounts (holding e) 0 e ∧ e.location ≠ .shelf ∧ e.suspect = true := by decide
theorem test_meets_MountHeldOrWaiting_uncertain :
    let e := { reel "AAA000" ⟨0, 0, 0⟩ with location := .uncertain }
    mounts (holding e) 0 e ∧ e.suspect = false ∧ e.location = .uncertain := by decide
theorem test_meets_MountHeldOrWaiting_away :
    let e := { reel "AAA000" ⟨0, 0, 0⟩ with location := .arm .a }
    mounts (homeward (holding e)) 0 e ∧ e.suspect = false ∧ e.location ≠ .shelf ∧
      e.location ≠ .uncertain ∧ e.location ≠ .cell := by decide
theorem test_meets_MountHeldOrWaiting_named : let e := reel "AAA000" ⟨0, 0, 0⟩
    mounts (homeward (holding e)) 0 e ∧ e.suspect = false ∧ e.location = .cell ∧
      ∃ k ∈ (homeward (holding e)).work.jobs, k.2.volume = some 0 := by decide
theorem test_meets_MountHeldOrWaiting_free : let e := reel "AAA000" ⟨0, 0, 0⟩
    mounts (holding e) 0 e ∧ e.suspect = false ∧ e.location = .cell ∧
      (∀ k ∈ (holding e).work.jobs, k.2.volume ≠ some 0) ∧ withinAllowance (holding e) 0 ∧
      (holding e).accountOf blankCode = 0 := by decide
theorem test_meets_MountHeldOrWaiting_shelf : let e := shelved "AAA000"
    mounts (holding e) 0 e ∧ e.location = .shelf ∧ withinAllowance (holding e) 0 := by decide

/-- `busy` with account 0 at its allowance of 1. -/
def spent : State :=
  busy.updateAccount 0 fun a => { a with allowance := 1, live := { a.live with mountsUsed := 1 } }

theorem test_meets_MountHeldOrWaiting_spent : mounts spent 0 (reel "AAA000" ⟨0, 0, 0⟩) ∧
    ¬withinAllowance spent 0 ∧ ∀ k ∈ spent.work.jobs, k.2.volume ≠ some 0 := by decide

theorem test_meets_MountRefused_mode : (inMode .quiescing lib).mode.governing ≠ some .run ∧
    lib.mode.governing = some .run ∧
    lib.mountWellFormed 0 1 { wants "AAA000" with priority := 4 } = false := by decide

/-- The library with drive 0 in a state. -/
def drive0 (state : DriveState) : State := withDrive 0 { readyDrive with state := state } lib

theorem test_meets_MountRefused_drive : lib.mountWellFormed 0 1 (wants "AAA000") = true ∧
    (lib.drive 15).configured = false ∧ lib.mountWellFormed 0 1 { wants "AAA000" with drive := 15 } = true ∧
    ((drive0 .cleanDue).drive 0).state ∈ [DriveState.service, .cleanDue, .cleaning] ∧
    ((drive0 .cleanDue).drive 0).configured = true ∧
    ((drive0 .occupied).drive 0).state ∉ [DriveState.service, .cleanDue, .cleaning] ∧
    ((drive0 .occupied).drive 0).state ≠ .empty ∧ ((drive0 .occupied).drive 0).draining = false := by decide

/-- The library with all 48 jobs, none of them naming volume 0 or drive 0. -/
def fullList : State :=
  { lib with work := { lib.work with
      jobs := (List.range 48).map fun n => (n, { newJob .eject 0 with volume := some 1 }) } }

theorem test_meets_MountRefused_full : fullList.freeJob = none ∧
    fullList.mountWellFormed 0 1 (wants "AAA000") = true ∧ (fullList.drive 0).state = .empty ∧
    (fullList.drive 0).job = none := by decide
theorem test_meets_MountRefused_in_use : let s := withJob 47 { work .eject .waiting with drive := none } lib
    s.freeJob = some 0 ∧ s.mountVolume (wants "AAA000") = some 0 ∧ s.mountable 0 = false ∧
      s.mountWellFormed 0 1 (wants "AAA000") = true := by decide

/-- The library with drive 0 OCCUPIED by volume 0. -/
def occupied : State :=
  withVolume 0 { reel "AAA000" ⟨0, 0, 0⟩ with location := .drive 0 } (withDrive 0 (sat .occupied) lib)

theorem test_meets_DemountAdmitted : occupied.mode ≠ .configure ∧ 3 ≤ 3 ∧ occupied.jobByTag 0 1 = none ∧
    (occupied.drive 0).configured = true ∧ (occupied.drive 0).state = .occupied ∧
    (occupied.drive 0).job = none ∧ occupied.freeJob = some 0 ∧
    (occupied.drive 0).occupancy = some sitting := by decide

/-- A DEMOUNT without an origin, made for drive 0. -/
def unasked : Job := { work .demount .assigned with origin := none }

/-- Drive 0 OCCUPIED, its job that DEMOUNT. -/
def adoptable : State := withJob 4 unasked (withDrive 0 { sat .occupied with job := some 4 } lib)

theorem test_meets_DemountAdmitted_adopted : adoptable.mode ≠ .configure ∧ adoptable.jobByTag 0 1 = none ∧
    (adoptable.drive 0).configured = true ∧ (adoptable.drive 0).state = .occupied ∧
    (adoptable.drive 0).job = some 4 ∧ adoptable.job? 4 = some unasked ∧ unasked.kind = .demount ∧
    unasked.origin = none := by decide

/-- Adopting with the unload option puts REWIND_UNLOAD down the string (R30, R48). -/
theorem test_adopted_demount_unloads :
    (run (.demount 0 1 0 true 3) adoptable).sent = adoptable.sent ++
      [response 0 1 .demount (.acceptedJob 4), .string (.rewindUnload 0)] := by decide

/-- The library with job 4, for RESERVED drive 0, WAITING. -/
def reserved : State :=
  withJob 4 (work .mount .waiting) (withDrive 0 { readyDrive with state := .reserved, job := some 4 } lib)

theorem test_meets_CancelledWhileWaiting : let j := work .mount .waiting
    reserved.jobByTag 1 9 = some 4 ∧ reserved.job? 4 = some j ∧ j.kind = .mount ∧ j.state = .waiting ∧
      j.origin = some { link := 1, tag := 9 } ∧ j.cancelled = false ∧ j.returning = false ∧ j.arm = none ∧
      j.ringBay = none ∧ j.drive = some 0 ∧ (reserved.drive 0).state = .reserved ∧
      (reserved.drive 0).job = some 4 ∧ (reserved.drive 0).draining = false ∧
      notDue (reserved.drive 0) ∧ notDue { readyDrive with cleanInterval := 5, mountsSinceClean := 4 } ∧
      ¬notDue { readyDrive with cleanInterval := 5, mountsSinceClean := 5 } := by decide

theorem test_meets_MovesAdmitted_eject : let e := reel "AAA000" ⟨0, 0, 0⟩
    permits lib 0 ∧ lib.mode ≠ .configure ∧ mapInvariant lib ∧ lib.volume? 0 = some e ∧
      serialGood e.serial = true ∧ lib.jobByTag 0 1 = none ∧ e.home = .cell ⟨0, 0, 0⟩ ∧
      e.location = .cell ∧ lib.jobNaming 0 = none ∧ lib.freeJob = some 0 := by decide

/-- The library with volume 0 on the SHELF and these hatch bays UNKNOWN. -/
def outside (bays : List HatchBay) : State :=
  { withVolume 0 { reel "AAA000" ⟨0, 0, 0⟩ with location := .shelf } lib with
    station := { lib.station with hatch := bays.foldl (fun b i => b.set i .unknown) lib.station.hatch } }

theorem test_meets_MovesAdmitted_bay :
    let e := { reel "AAA000" ⟨0, 0, 0⟩ with location := .shelf }
    let s := outside [0, 1, 2]
    permits s 0 ∧ s.mode ≠ .configure ∧ mapInvariant s ∧ s.volume? 0 = some e ∧
      serialGood e.serial = true ∧ s.jobByTag 0 1 = none ∧ e.home ≠ .shelf ∧ e.location = .shelf ∧
      s.jobNaming 0 = none ∧ s.freeJob = some 0 ∧ s.desk.prompts.length < 32 ∧
      s.freeHatches = [3] := by decide
theorem test_meets_MovesAdmitted_full : let s := outside [0, 1, 2, 3]
    s.freeHatches = [] ∧ s.volume? 0 = some { reel "AAA000" ⟨0, 0, 0⟩ with location := .shelf } ∧
      permits s 0 ∧ s.jobByTag 0 1 = none ∧ s.jobNaming 0 = none ∧ s.freeJob = some 0 := by decide

/-- An item for a new volume. -/
def newItem : AddItem := ⟨code "NEW001", .cell ⟨0, 1, 15⟩, .cleanPool, .ringIn, blankCode, 40⟩

theorem test_meets_VolumeAdded : permits lib 0 ∧ serialGood newItem.serial = true ∧
    homeGood newItem.home = true ∧ lib.findSerial newItem.serial = none ∧
    lib.homeTaken newItem.home = none ∧ lib.columnUnset newItem.home = false ∧
    lib.map.volumes.firstFree 4096 = some 3 := by decide
theorem test_meets_VolumeAdded_bad : serialGood blankCode = false ∧
    homeGood (.cell ⟨0, 1, 16⟩) = false := by decide

theorem test_meets_VolumeDeletedOrRehomed : permits lib 0 ∧ mapInvariant lib ∧
    lib.volume? 0 = some (reel "AAA000" ⟨0, 0, 0⟩) ∧ lib.jobNaming 0 = none ∧
    (reel "AAA000" ⟨0, 0, 0⟩).location.isHolder = false := by decide
theorem test_meets_VolumeDeletedOrRehomed_held : mapInvariant reserved ∧ reserved.jobNaming 0 = some 4 ∧
    reserved.volume? 0 = some (reel "AAA000" ⟨0, 0, 0⟩) ∧ mapInvariant occupied ∧
    occupied.jobNaming 0 = none ∧ ((occupied.volume? 0).map fun e => e.location.isHolder) = some true := by
  decide
theorem test_meets_VolumeDeletedOrRehomed_absent : permits bare 0 ∧ mapInvariant bare ∧
    ∀ v e, bare.volume? v = some e → e.serial ≠ code "AAA000" :=
  ⟨by decide, by decide, fun _ _ h => (Option.some_ne_none _ h.symm).elim⟩

/-- The library with the one volume 0 in its map. -/
def single : State := { bare with map := { bare.map with volumes := [(0, reel "AAA000" ⟨0, 0, 0⟩)] } }

theorem test_meets_VolumeDeletedOrRehomed_rehomed : permits single 0 ∧ mapInvariant single ∧
    single.volume? 0 = some (reel "AAA000" ⟨0, 0, 0⟩) ∧ single.jobNaming 0 = none ∧
    homeGood (.cell ⟨0, 1, 15⟩) = true ∧
    (∀ u f, single.volume? u = some f → f.home ≠ .cell ⟨0, 1, 15⟩) ∧
    single.columnUnset (.cell ⟨0, 1, 15⟩) = false := by
  refine ⟨by decide, by decide, by decide, by decide, by decide, fun u f h => ?_, by decide⟩
  have : (if 0 = u then some (reel "AAA000" ⟨0, 0, 0⟩) else none) = some f := h
  split at this <;> cases this
  decide
theorem test_meets_VolumeDeletedOrRehomed_taken : mapInvariant lib ∧
    lib.volume? 1 = some (reel "AAA001" ⟨0, 1, 2⟩) ∧ 1 ≠ 0 ∧
    (reel "AAA001" ⟨0, 1, 2⟩).home = .cell ⟨0, 1, 2⟩ ∧ lib.jobNaming 0 = none ∧
    homeGood (.cell ⟨0, 1, 2⟩) = true := by decide

theorem test_meets_GeometryLoaded : permits State.reset 0 ∧ State.reset.mode.takesLoads = true ∧
    (inMode (.safe .quiesced) lib).mode.takesLoads = true ∧ lib.mode.takesLoads = false ∧
    (let m := { State.reset.map with columns := State.reset.map.columns.put 255 1023 }
    15 ≤ 15 ∧ 1023 ≤ 1023 ∧ m = { State.reset.map with columns := m.columns } ∧
      m.columns.get? (15 * 16 + 15) = some 1023) ∧ 1023 < 1024 ∧ ¬(16 ≤ 15 ∧ 0 ≤ 15) ∧ ¬2 ≤ 1 ∧ ¬4 ≤ 3 := by decide
theorem test_meets_GeometryLoaded_columns (k : Nat) :
    (State.reset.map.columns.put 255 1023).get? k =
      if k = 15 * 16 + 15 then some 1023 else State.reset.map.columns.get? k := by
  show (if 255 = k then some 1023 else none) = _
  by_cases h : k = 255 <;> simp [h, State.reset, Table.get?, eq_comm]
theorem test_meets_GeometryLoaded_separation : State.reset.armsTooClose (max 8 (min 64 70)) = false ∧
    (let s := inMode .quiesced { lib with arms := { lib.arms with armA := idleArm 836, armB := idleArm 899 } }
    permits s 0 ∧ s.mode.takesLoads = true ∧ (s.arm .a).claim = some { low := 836, high := 836 } ∧
      (s.arm .b).claim = some { low := 899, high := 899 } ∧ 899 < 836 + max 8 (min 64 70)) := by decide

/-- An item for drive 15. -/
def driveOf (d : Nat) (configured : Bool) : DriveItem := ⟨d, configured, 3, 7, true, 0, 0⟩

theorem test_meets_DrivesLoaded : permits State.reset 0 ∧ (driveOf 15 true).driveClass = (3 : Fin 4).val ∧
    (driveOf 15 true).owningLink ≤ 7 ∧ State.reset.mode.takesLoads = true ∧
    ¬((State.reset.drive 15).configured = true ∧ (driveOf 15 true).configured = false ∧
      ((State.reset.drive 15).state ≠ .empty ∨ (State.reset.drive 15).job ≠ none)) := by decide
theorem test_meets_DrivesLoaded_busy : let s := inMode .quiesced (drive0 .occupied)
    s.mode.takesLoads = true ∧ (s.drive 0).configured = true ∧ (driveOf 0 false).configured = false ∧
      (s.drive 0).state ≠ .empty ∧ lib.mode.takesLoads = false := by decide

/-- The library with account 5 named and used twice, and account 6 named. -/
def accounts : State :=
  (lib.updateAccount 5 fun a =>
      { a with code := code "ACC005", live := { a.live with mountsUsed := 2 } }).updateAccount 6
    fun a => { a with code := code "ACC006" }

theorem test_meets_AccountsLoaded : permits accounts 0 ∧ codeGood (code "ACC063") = true ∧
    (∀ k : AccountId, k ≠ 0 → k ≠ 63 → (accounts.accounting.accounts.get k).code ≠ code "ACC063") ∧
    ¬((∃ j ∈ accounts.work.jobs, j.2.account = 63) ∨
      (accounts.accounting.accounts.get 63).closed ≠ none ∨
      0 < (accounts.accounting.accounts.get 63).live.unlistedCharge) := by decide
theorem test_meets_AccountsLoaded_bad : permits accounts 0 ∧ 63 < 64 ∧ codeGood (code "acc001") = false := by
  decide
theorem test_meets_AccountsLoaded_idle (d : DriveId) (o : Occupancy) :
    ¬((accounts.drive d).occupancy = some o ∧ o.account = 63) := by
  have : ∀ d, (accounts.drive d).occupancy = none := by decide
  simp [this d]
theorem test_meets_AccountsLoaded_present : codeGood (code "ACC005") = true ∧
    ¬((6 : AccountId) = 0 ∨ code "ACC005" = blankCode ∨ ∀ k : AccountId, k ≠ 0 → k ≠ 6 →
      (accounts.accounting.accounts.get k).code ≠ code "ACC005") := by decide
theorem test_meets_AccountsLoaded_busy : let s := withJob 0 { work .mount .waiting with account := 5 } accounts
    (5 : AccountId) ≠ 0 ∧ code "ACC063" ≠ (s.accounting.accounts.get 5).code ∧
      (∃ j ∈ s.work.jobs, j.2.account = 5) ∧
      ∀ k : AccountId, k ≠ 0 → k ≠ 5 → (s.accounting.accounts.get k).code ≠ code "ACC063" := by decide
theorem test_meets_AccountsLoaded_below : code "ACC005" = (accounts.accounting.accounts.get 5).code ∧
    1 ≠ 0 ∧ 1 < (accounts.accounting.accounts.get 5).live.mountsUsed ∧
    ∀ k : AccountId, k ≠ 0 → k ≠ 5 → (accounts.accounting.accounts.get k).code ≠ code "ACC005" := by decide

/-- A tariff of as many bands as given, at the largest values. -/
def tariffAt (bands : Nat) (starts : Bank Nat 4) : TariffFrame :=
  ⟨bands, starts, Bank.replicate 4 (Bank.replicate 4 4095), Bank.replicate 4 4095, Bank.replicate 4 255, 255⟩

theorem test_meets_TariffLoaded : let f := tariffAt 4 (bank4 0 1 2 86399)
    permits lib 0 ∧ 1 ≤ f.bandCount ∧ f.bandCount ≤ 4 ∧ f.starts.get 0 = 0 ∧
      (∀ i : Fin 4, i.val < f.bandCount → f.starts.get i ≤ 86399) ∧
      (∀ i j : Fin 4, i < j → j.val < f.bandCount → f.starts.get i < f.starts.get j) ∧
      (∀ k b : Fin 4, (f.rates.get k).get b ≤ 4095) ∧ (∀ k : Fin 4, f.fees.get k ≤ 4095) ∧
      State.reset.mode = .configure ∧ lib.mode ≠ .configure := by decide
theorem test_meets_TariffLoaded_descending : let f := tariffAt 2 (bank4 0 0 0 0)
    f.starts.get 0 = 0 ∧ (∀ i : Fin 4, i.val < f.bandCount → f.starts.get i ≤ 86399) ∧
      ∃ i j : Fin 4, i < j ∧ j.val < f.bandCount ∧ f.starts.get j ≤ f.starts.get i := by decide

theorem test_meets_RoutingAndPolicySet : permits lib 0 ∧
    (∃ m : Link, m ≠ 3 ∧ permits lib m) ∧ ∀ m : Link, m ≠ 0 → ¬permits lib m := by decide
theorem test_meets_NoticesReadAndSet : permits lib 0 ∧ isConditionClass .armState = true ∧
    isConditionClass .modeChange = false := by decide
theorem test_meets_ErrorsCleared : permits lib 0 := by decide
theorem test_meets_ClockSetOrRounded : permits lib 0 ∧ 65535 ≤ 65535 ∧ 86399 ≤ 86399 ∧ 86399 < 86400 := by decide
theorem test_meets_ClockSetOrRounded_rounded : let s := { lib with clock := { lib.clock with second := 86370 } }
    permits s 0 ∧ s.clock.state = .running ∧ s.clock.second ≤ 86399 ∧ 86370 ≤ s.clock.second ∧
      permits State.reset 0 ∧ State.reset.clock.state = .notSet := by decide
theorem test_meets_ClockTrimmedAndCloseSet : permits lib 0 ∧ (-128 : Int) ≤ -128 ∧ (127 : Int) ≤ 127 ∧
    [0, 1, 86399].length ≤ 3 ∧ (∀ x ∈ [0, 1, 86399], x ≤ 86399) ∧ [0, 1, 86399] ≠ [] ∧ ∃ x ∈ [86400], 86399 < x := by decide

/-- The library with drive 0 OCCUPIED, at a second of day and a compensation. -/
def atSecond (second : Nat) (compensation : Int) : State :=
  { occupied with clock := { occupied.clock with second := second, compensation := compensation } }

theorem test_meets_SecondAdvanced : let s := atSecond 35997 0
    s.clock.state = .running ∧ s.clock.second ≤ 86399 ∧ (s.clock.second + 1) % 3600 ≠ 0 ∧
      s.clock.closeMode = .manual ∧ (s.drive 0).occupancy = some sitting ∧ (s.drive 1).occupancy = none ∧
      ∀ d' : DriveId, d' ≠ 0 → (s.drive d').occupancy = none := by decide
theorem test_meets_HourPassed : ∀ c ∈ [(0 : Int), 1, 63, 64, 127, -1, -127], ∀ n ∈ [3599, 86399],
    (atSecond n c).clock.state = .running ∧ (atSecond n c).clock.second ≤ 86399 ∧
      ((atSecond n c).clock.second + 1) % 3600 = 0 ∧ (atSecond n c).clock.closeMode = .manual ∧
      (atSecond n c).clock.compensation = c := by decide

/-- `atSecond` in a close mode, with these shift times. -/
def closing (m : CloseMode) (times : List Nat) (second : Nat) (compensation : Int) : State :=
  let s := atSecond second compensation
  { s with clock := { s.clock with closeMode := m, shiftTimes := times } }

theorem test_meets_CloseRaisedByTheClock : ∀ s ∈ [closing .hourly [] 3599 63, closing .daily [] 86399 0,
      closing .shifts [50] 49 0, closing .shifts [3600, 3601] 3599 64, closing .manual [] 3599 0],
    s.clock.state = .running ∧ s.clock.second ≤ 86399 ∧ s.clock.compensation ≤ 127 ∧
      (∀ k ∈ s.work.jobs, k.2.state ≠ .held .allowance) ∧ (s.drive 0).occupancy = some sitting ∧
      (∀ d' : DriveId, d' ≠ 0 → (s.drive d').occupancy = none) ∧
      s.accounting.records.length < 256 := by decide

/-- The close event of each mode, and two of SHIFTS when a compensation lands on a second shift time (R141). -/
theorem test_closes_by_mode :
    [closing .hourly [] 3599 0, closing .hourly [] 49 0, closing .daily [] 86399 0, closing .daily [] 3599 0,
      closing .shifts [50] 49 0, closing .shifts [50] 48 0, closing .shifts [3600, 3601] 3599 64,
      closing .manual [] 86399 0].map (fun s => (run .secondAdvance s).accounting.period) =
      [1, 0, 1, 0, 1, 0, 2, 0] := by decide +kernel

/-- The library at a tick count, with ticks to drop. -/
def ticked (tick drop : Nat) : State :=
  { lib with clock := { lib.clock with tick := tick, ticksToDrop := drop } }

theorem test_meets_TimeBaseTicked : State.reset.clock.state = .notSet ∧
    (ticked 63 1).clock.state = .running ∧ 0 < (ticked 63 1).clock.ticksToDrop ∧
    (ticked 62 0).clock.ticksToDrop = 0 ∧ (ticked 62 0).clock.tick < 63 ∧ 63 ≤ (ticked 63 0).clock.tick ∧
    (ticked 63 0).clock.second ≤ 86399 ∧ ((ticked 63 0).clock.second + 1) % 3600 ≠ 0 ∧
    (ticked 63 0).clock.closeMode = .manual := by decide

/-- The library with drive 0 OCCUPIED on account 3 and account 4 with a full closed slot. -/
def slotted : State :=
  occupied.updateAccount 4 fun a =>
    { a with closed := some { period := 0, stamp := { day := 9, second := 0 }, merged := false, totals := a.live } }

theorem test_meets_PeriodClosed : permits slotted 0 ∧
    (∀ k ∈ slotted.work.jobs, k.2.state ≠ .held .allowance) ∧
    (slotted.accounting.accounts.get 4).closed ≠ none ∧ (slotted.accounting.accounts.get 63).closed = none ∧
    (slotted.drive 0).occupancy = some sitting ∧
    (∀ d' : DriveId, d' ≠ 0 → (slotted.drive d').occupancy = none) ∧
    slotted.accounting.records.length < 256 ∧ (∀ d, (lib.drive d).occupancy = none) ∧ permits lib 0 := by decide
theorem test_meets_RecordsAndSlotsRead : permits slotted 0 ∧
    ((slotted.accounting.accounts.get 4).closed.map ClosedSlot.period) = some 0 ∧
    (slotted.accounting.accounts.get 63).closed = none ∧ 63 < 64 := by decide

/-- Drive 0 in a state with job 4, and volume 0 at a location. -/
def driveWork (d : DriveState) (l : Location) (j : Job) : State :=
  withJob 4 j (withVolume 0 { reel "AAA000" ⟨0, 0, 0⟩ with location := l }
    (withDrive 0 { readyDrive with state := d, job := some 4, loadTimer := .running 9 } lib))

/-- The hypotheses of ReadyCompletesMount for drive 0 and job 4. -/
abbrev readyFor (s : State) (j : Job) (label : Option Code) : Prop :=
  s.reads 0 = true ∧ (s.drive 0).job = some 4 ∧ s.job? 4 = some j ∧ j.kind = .mount ∧ j.drive = some 0 ∧
    j.arm = none ∧ (label = none ∨ label = j.serial)

theorem test_meets_ReadyCompletesMount_loading : let j := work .mount .loading
    let s := driveWork .loading (.drive 0) j
    readyFor s j (some (code "AAA000")) ∧ (s.drive 0).state = .loading ∧ j.cancelled = false ∧
      j.volume = some 0 ∧ s.volume? 0 = some { reel "AAA000" ⟨0, 0, 0⟩ with location := .drive 0 } := by
  decide
theorem test_meets_ReadyCompletesMount_cancelled :
    let j := { work .mount .loading with cancelled := true, volume := none, serial := none }
    readyFor (driveWork .loading .cell j) j none ∧ j.cancelled = true ∧ j.volume = none := by decide

/-- A mount by hand whose MOUNT_BY_HAND is open. -/
def manualJob : Job := { work .mount .manual with mountKind := .manual, prompt := some 1 }

/-- `manualJob` with drive 0 in a state and its prompt of a kind. -/
def manual (d : DriveState) (k : PromptKind) : State :=
  withPrompt (asked k (.job (manualJob.ref 4))) (driveWork d .shelf manualJob)

theorem test_meets_ReadyCompletesMount_by_hand : readyFor (manual .reserved .mountByHand) manualJob none ∧
    ((manual .reserved .mountByHand).drive 0).state = .reserved ∧ manualJob.state = .manual ∧
    manualJob.prompt = some 1 ∧
    ((manual .reserved .mountByHand).prompt? 1).map Prompt.kind = some .mountByHand := by decide

theorem test_meets_ReadyOfAnotherReel_unread : (inMode .configure lib).reads 0 = false := by decide
theorem test_meets_ReadyOfAnotherReel_wrong : let j := work .mount .loading
    let s := driveWork .loading (.drive 0) j
    s.reads 0 = true ∧ (s.drive 0).state = .loading ∧ (s.drive 0).job = some 4 ∧ s.job? 4 = some j ∧
      j.serial ≠ some (code "AAA001") ∧ j.cancelled = false ∧ deskOpen s ∧ j.volume = some 0 := by decide
theorem test_meets_ReadyOfAnotherReel_empty : lib.reads 0 = true ∧ (lib.drive 0).state = .empty ∧
    lib.findSerial (code "NEW001") = none ∧ lib.desk.prompts.length < 32 ∧
    lib.findSerial (code "AAA001") = some 1 ∧ lib.volume? 1 = some (reel "AAA001" ⟨0, 1, 2⟩) ∧
    (reel "AAA001" ⟨0, 1, 2⟩).location.isHolder = false ∧
    occupied.findSerial (code "AAA000") = some 0 ∧ (occupied.drive 1).state = .empty ∧
    (occupied.volume? 0).map (fun e => e.location.isHolder) = some true := by decide

theorem test_meets_ReadyOfAnotherReel_reserved :
    (∀ j ∈ [work .mount .waiting, { work .mount .atRing with ringBay := some 1 },
      { work .mount .manual with serial := some (code "AAA002") }],
    let s := (driveWork .reserved .cell j).setRing 1 (.holding 0 (some (j.ref 4)))
    s.reads 0 = true ∧ (s.drive 0).state = .reserved ∧ (s.drive 0).job = some 4 ∧ s.job? 4 = some j ∧
      j.returning = false ∧ j.cancelled = false ∧ (j.state ≠ .manual ∨ j.serial ≠ some (code "AAA001")) ∧
      s.findSerial (code "AAA001") = some 1 ∧ j.volume ≠ some 1 ∧ j.arm = none ∧
      s.station.ring.get 1 = .holding 0 (some (j.ref 4)) ∧
      s.homeLeg j.volume = .stow ⟨0, 0, 0⟩ ∧ s.desk.prompts.length < 32) ∧
    (let j := { work .mount .assigned with arm := some .a }
    let s := withArm .a (fun a => { flying (.fetch ⟨0, 0, 0⟩) a with job := some (j.ref 4) })
      (driveWork .reserved .cell j)
    j.returning = false ∧ (s.arm .a).job = some (j.ref 4) ∧ (s.arm .a).hand = .empty ∧
      (s.arm .a).inFlight = some { tag := 5, order := .fetch ⟨0, 0, 0⟩ } ∧
      (Order.fetch ⟨0, 0, 0⟩).isTake = true ∧ s.job? 4 = some j) := by decide

theorem test_meets_UnloadedClosesOccupancy_free : (inMode .configure lib).reads 0 = false ∧
    occupied.reads 0 = true ∧ (occupied.drive 0).state = .occupied ∧
    (occupied.drive 0).occupancy = some sitting ∧ occupied.accounting.records.length < 256 ∧
    (occupied.drive 0).job = none ∧ (occupied.drive 0).autoDemount = false := by decide

/-- A DEMOUNT waiting for drive 0 to be unloaded, with both arms MOVING. -/
def unloading : State :=
  withJob 4 (work .demount .unloadWait) (withVolume 0 { reel "AAA000" ⟨0, 0, 0⟩ with location := .drive 0 }
    (withDrive 0 { sat .unloading with job := some 4 } busy))

theorem test_meets_UnloadedClosesOccupancy_demount : unloading.reads 0 = true ∧
    (unloading.drive 0).state = .unloading ∧ (unloading.drive 0).occupancy = some sitting ∧
    unloading.accounting.records.length < 256 ∧ (unloading.drive 0).job = some 4 ∧
    unloading.job? 4 = some (work .demount .unloadWait) ∧ unloading.locatedAt (.drive 0) = some 0 ∧
    unloading.homeCell 0 = some ⟨0, 0, 0⟩ ∧ sitting.mountKind ≠ .manual ∧ noIdleArm unloading := by decide
theorem test_meets_UnloadedClosesOccupancy_loading : let j := work .mount .loading
    let s := driveWork .loading (.drive 0) j
    s.reads 0 = true ∧ (s.drive 0).state = .loading ∧ (s.drive 0).job = some 4 ∧ s.job? 4 = some j := by decide
theorem test_meets_UnloadedClosesOccupancy_cleaning : let s := driveWork .cleaning (.drive 0) (work .clean .cleanWait)
    s.reads 0 = true ∧ (s.drive 0).state = .cleaning ∧ s.accounting.records.length < 256 ∧
      s.locatedAt (.drive 0) = some 0 ∧
      s.volume? 0 = some { reel "AAA000" ⟨0, 0, 0⟩ with location := .drive 0 } := by decide

/-- Drive 0 EMPTY with an error count one below its threshold. -/
def worn : State := withDrive 0 { readyDrive with errorCount := 15 } lib

theorem test_meets_DriveErrorsCounted : worn.reads 0 = true ∧ (worn.drive 0).draining = false ∧
    (worn.drive 0).threshold ≤ min 255 ((worn.drive 0).errorCount + 1) ∧ (worn.drive 0).state = .empty ∧
    lib.reads 0 = true ∧ ¬(lib.drive 0).threshold ≤ min 255 ((lib.drive 0).errorCount + 8) ∧
    (drive0 .loading).reads 0 = true ∧ ((drive0 .loading).drive 0).state = .loading ∧
    ((drive0 .loading).drive 0).servicePrompt = none ∧ deskOpen (drive0 .loading) ∧
    (inMode .configure lib).reads 0 = false := by decide

/-- A frame whose CRC is not the frame's. -/
def spoiled : WireFrame := { frame 16#8 .readClock 17#8 [] with crc := 0#16 }

theorem test_meets_FramesForwardedOrDiscarded : spoiled.crcGood = false ∧
    (frame 16#8 .completion 17#8 []).crcGood = true ∧ (frame 16#8 .completion 17#8 []).destination = 16#8 ∧
    (frame 3#8 (.other 0#8) 17#8 []).crcGood = true ∧ (frame 3#8 (.other 0#8) 17#8 []).destination ≠ 16#8 ∧
    (lib.drive 15).configured = false ∧ (lib.drive 2).configured = true ∧
    (lib.drive 2).owningLink = (0 : Link).val ∧ goodLineForm [.completion] (frame 16#8 .completion 17#8 []) ∧
    ¬goodLineForm [.completion] (frame 3#8 (.other 0#8) 17#8 []) ∧
    (∀ k ∈ [FrameKind.reply, .recall, .refresh], (frame 16#8 k 17#8 []).crcGood = true ∧
      goodLineForm [.reply, .recall, .refresh] (frame 16#8 k 17#8 []) ∧ (frame 16#8 k 17#8 []).kindName = k) ∧
    ¬goodLineForm [.reply, .recall, .refresh] (frame 16#8 .completion 17#8 []) := by decide +kernel

/-- A completion's payload with the position 1023, and with 1024, in bytes 2 and 3. -/
theorem test_meets_FramesForwardedOrDiscarded_position :
    let at1023 := frame 16#8 .completion 17#8 [0#8, 1#8, 3#8, 0xFF#8, 0#8, 0#8]
    let at1024 := frame 16#8 .completion 17#8 [0#8, 1#8, 4#8, 0#8, 0#8, 0#8]
    at1023.crcGood = true ∧ goodLineForm [.completion] at1023 ∧ at1024.crcGood = true ∧
      goodLineForm [.completion] at1024 ∧
      at1023.payload = 0#8 :: 1#8 :: 3#8 :: 0xFF#8 :: 0#8 :: 0#8 :: [] ∧
      (3#8).toNat * 256 + (0xFF#8).toNat ≤ 1023 ∧ ¬(4#8).toNat * 256 + (0#8).toNat ≤ 1023 := by
  decide +kernel

/-- The library with an intake queue of these many frames and a partial train on link 0. -/
def intakeWith (frames : Nat) (train : Option PartialTrain) : State :=
  { lib with intake := lib.intake.update 0 fun i =>
      { i with queue := List.replicate frames clockFrame, train := train } }

/-- A READ_CLOCK taken up to its part `taken` of 3. -/
def train3 (taken : Nat) : PartialTrain :=
  { kind := .readClock, tag := 9, total := 3, taken := taken, payload := [] }

theorem test_meets_LinkFrameTaken_discarded : spoiled.crcGood = false ∧
    (frame 17#8 .readClock 17#8 []).crcGood = true ∧ ¬goodForm (frame 17#8 .readClock 17#8 []) := by
  decide +kernel
theorem test_meets_LinkFrameTaken_command : let f := frame 0#8 .rewindUnload 17#8 []
    f.crcGood = true ∧ goodForm f ∧ f.destination.toNat = (0 : DriveId).val ∧ reserved.reads 0 = true ∧
      (reserved.drive 0).state = .reserved ∧ occupied.reads 0 = true ∧
      (occupied.drive 0).state = .occupied := by decide +kernel
theorem test_meets_LinkFrameTaken_queue : let f := frame 16#8 .readClock 17#8 []
    f.crcGood = true ∧ goodForm f ∧ f.destination.toNat = 16 ∧ f.train = 17#8 ∧
      ((intakeWith 7 none).intake.get 0).train = none ∧ ((intakeWith 7 none).intake.get 0).queue.length < 8 ∧
      8 ≤ ((intakeWith 8 none).intake.get 0).queue.length ∧
      payloadLengthGood f.kindName f.payload.length = true ∧
      goodForm (frame 16#8 .readClock 17#8 [0#8]) ∧ (frame 16#8 .readClock 17#8 [0#8]).crcGood = true ∧
      payloadLengthGood .readClock [0#8].length = false := by decide +kernel
theorem test_meets_LinkFrameTaken_train :
    let opens := frame 16#8 .readClock 0x31#8 []
    let grows := frame 16#8 .readClock 0x32#8 []
    let ends := frame 16#8 .readClock 0x33#8 []
    opens.crcGood = true ∧ goodForm opens ∧ opens.train.toNat % 16 = 1 ∧ 1 < opens.train.toNat / 16 ∧
      grows.crcGood = true ∧ goodForm grows ∧ grows.train.toNat % 16 ≠ 1 ∧
      ((intakeWith 0 (some (train3 1))).intake.get 0).train = some (train3 1) ∧
      grows.kindName = (train3 1).kind ∧ grows.tag.toNat = (train3 1).tag ∧
      grows.train.toNat / 16 = (train3 1).total ∧ grows.train.toNat % 16 = (train3 1).taken + 1 ∧
      (train3 1).taken + 1 < (train3 1).total ∧ ends.crcGood = true ∧ goodForm ends ∧
      ends.train.toNat % 16 = (train3 2).taken + 1 ∧ (train3 2).taken + 1 = (train3 2).total ∧
      ((intakeWith 7 (some (train3 2))).intake.get 0).queue.length < 8 ∧
      payloadLengthGood .readClock ((train3 2).payload ++ ends.payload).length = true := by decide +kernel
theorem test_meets_LinkFrameTaken_broken :
    let ends := frame 16#8 .readClock 0x33#8 []
    let long := { train3 2 with payload := [0#8] }
    ends.crcGood = true ∧ goodForm ends ∧ ends.destination.toNat = 16 ∧
      ((intakeWith 0 (some (train3 1))).intake.get 0).train = some (train3 1) ∧
      ends.train.toNat % 16 ≠ (train3 1).taken + 1 ∧
      ((intakeWith 8 (some (train3 2))).intake.get 0).train = some (train3 2) ∧
      8 ≤ ((intakeWith 8 (some (train3 2))).intake.get 0).queue.length ∧
      ends.kindName = (train3 2).kind ∧ ends.tag.toNat = (train3 2).tag ∧
      ends.train.toNat / 16 = (train3 2).total ∧ ends.train.toNat % 16 = (train3 2).taken + 1 ∧
      (train3 2).taken + 1 = (train3 2).total ∧
      payloadLengthGood .readClock ((train3 2).payload ++ ends.payload).length = true ∧
      ((intakeWith 0 (some long)).intake.get 0).train = some long ∧
      payloadLengthGood .readClock (long.payload ++ ends.payload).length = false := by decide +kernel

/-- Arm A flying an order under tag 5 for job 4, with its hand as given and volume 0 at a location. -/
def armWork (o : Order) (h : Hand) (l : Location) (j : Job) : State :=
  withJob 4 j (withVolume 0 { reel "AAA000" ⟨0, 0, 0⟩ with location := l }
    (withDrive 0 { readyDrive with state := .reserved, job := some 4 }
      (withArm .a (fun a => { flying o a with hand := h, job := some (j.ref 4) }) lib)))

/-- A job ASSIGNED to arm A. -/
def assigned (k : JobKind) : Job :=
  { work k .assigned with arm := some .a, legs := [.fetch ⟨0, 0, 0⟩, .load 0] }

theorem test_meets_OrderDone_fetch : let s := armWork (.fetch ⟨0, 0, 0⟩) .empty .cell (assigned .mount)
    worksFor s .a 4 (assigned .mount) ∧ s.volume? 0 = some (reel "AAA000" ⟨0, 0, 0⟩) ∧
      (assigned .mount).state = .assigned ∧ flies s .a 5 (.fetch ⟨0, 0, 0⟩) ∧
      s.homedAt ⟨0, 0, 0⟩ = some 0 ∧ (assigned .mount).drive ≠ none ∧ (assigned .mount).cancelled = false ∧
      s.locatedAt (.arm .a) = none := by decide
theorem test_meets_OrderDone_stow :
    let s := armWork (.stow ⟨0, 0, 0⟩) (.loaded (some 0)) (.arm .a) (assigned .demount)
    worksFor s .a 4 (assigned .demount) ∧
      s.volume? 0 = some { reel "AAA000" ⟨0, 0, 0⟩ with location := .arm .a } ∧
      flies s .a 5 (.stow ⟨0, 0, 0⟩) ∧ (s.arm .a).hand = .loaded (some 0) ∧
      (assigned .demount).cancelled = false := by decide
theorem test_meets_OrderDone_load : let s := armWork (.load 0) (.loaded (some 0)) (.arm .a) (assigned .mount)
    worksFor s .a 4 (assigned .mount) ∧
      s.volume? 0 = some { reel "AAA000" ⟨0, 0, 0⟩ with location := .arm .a } ∧ flies s .a 5 (.load 0) ∧
      (s.arm .a).hand = .loaded (some 0) ∧ (s.drive 0).state = .reserved ∧ (s.drive 0).job = some 4 ∧
      s.locatedAt (.drive 0) = none := by decide

/-- The hypotheses of OrderDone for an order of arm A, with its hand as given and volume 0 at a location. -/
abbrev does (s : State) (o : Order) (h : Hand) (l : Location) (j : Job) : Prop :=
  worksFor s .a 4 j ∧ s.volume? 0 = some { reel "AAA000" ⟨0, 0, 0⟩ with location := l } ∧
    j.state = .assigned ∧ flies s .a 5 o ∧ j.cancelled = false ∧ (s.arm .a).hand = h

theorem test_meets_OrderDone_takes : let emptied := { readyDrive with state := .awaitingPull, job := some 4 }
    let held : BayState := .holding 0 (some { number := 4, sequence := 7 })
    (let s := withDrive 0 emptied (armWork (.pull 0) .empty (.drive 0) (assigned .demount))
    does s (.pull 0) .empty (.drive 0) (assigned .demount) ∧ s.locatedAt (.arm .a) = none ∧
      s.locatedAt (.drive 0) = some 0 ∧ (s.drive 0).state = .awaitingPull ∧ (s.drive 0).draining = false ∧
      notDue (s.drive 0)) ∧
    (∀ k ∈ [JobKind.mount, .demount], let s := (armWork (.ringTake 1) .empty (.ring 1) (assigned k)).setRing 1 held
    does s (.ringTake 1) .empty (.ring 1) (assigned k) ∧ s.locatedAt (.arm .a) = none ∧
      s.station.ring.get 1 = held ∧ (assigned k).drive ≠ none) ∧
    (let s := (armWork (.hatchTake 3) .empty (.hatch 3) (assigned .enter)).setHatch 3 held
    does s (.hatchTake 3) .empty (.hatch 3) (assigned .enter) ∧ s.locatedAt (.arm .a) = none ∧
      s.station.hatch.get 3 = held) := by decide
theorem test_meets_OrderDone_puts :
    (∀ k ∈ [JobKind.mount, .demount], let j := { assigned k with legs := [.fetch ⟨0, 0, 0⟩, .ringPut 1], leg := 1 }
    let s := armWork (.ringPut 1) (.loaded (some 0)) (.arm .a) j
    does s (.ringPut 1) (.loaded (some 0)) (.arm .a) j ∧ j.legs[j.leg]? = some (.ringPut 1) ∧
      j.drive ≠ none ∧ j.returning = false ∧ s.locatedAt (.ring 1) = none ∧ deskOpen s) ∧
    (let j := { assigned .demount with legs := [.pull 0, .ringPut 1], leg := 1 }
    let s := withDrive 0 { readyDrive with job := some 4 }
      (armWork (.ringPut 1) (.loaded (some 0)) (.arm .a) j)
    does s (.ringPut 1) (.loaded (some 0)) (.arm .a) j ∧ j.legs[j.leg]? = some (.ringPut 1) ∧
      j.returning = false ∧ s.locatedAt (.ring 1) = none ∧ j.kind = .demount ∧ j.drive = some 0 ∧
      (s.drive 0).state = .empty ∧ (s.drive 0).job = some 4) ∧
    (∀ t ∈ [Disposal.none, .stowFault ⟨0, 0, 0⟩], let j := { assigned .eject with disposal := t }
    let s := armWork (.hatchPut 3) (.loaded (some 0)) (.arm .a) j
    does s (.hatchPut 3) (.loaded (some 0)) (.arm .a) j ∧ s.locatedAt (.hatch 3) = none) := by decide

/-- HOMING for RUN with arm A's HOME in flight and arm B in a state. -/
def homing (b : ArmState) : State :=
  withArm .a (fun a => { flying .home a with state := .homing })
    (withArm .b (fun a => { a with state := b }) (inMode (.homing .run) lib))

theorem test_meets_HomeDoneOrUnmatched : ∀ b ∈ [ArmState.homing, .idle],
    (homing b).control.mode = .homing .run ∧ ((homing b).arm .a).state = .homing ∧
      flies (homing b) .a 5 .home ∧ ((homing b).arm .a).homeDue = false ∧
      ((homing b).arm .a).nextOrder = none ∧ ((homing b).arm .a).job = none ∧
      ((homing b).arm .a).interrupted = none ∧ ((homing b).arm .b).isSettled = (b == .idle) := by decide
/-- Arm B flying a YIELD to 900, and arm A MOVING for job 4 with its FETCH held. -/
def yielded : State :=
  withArm .a (fun a => { a with
      state := .moving, nextOrder := some (.fetch ⟨0, 0, 0⟩), job := some ((assigned .mount).ref 4) })
    (withArm .b (flying (.yieldTo 900)) (withJob 4 (assigned .mount) lib))

theorem test_meets_HomeDoneOrUnmatched_yield : flies yielded .b 5 (.yieldTo 900) ∧
    (yielded.arm .b).state = .moving ∧ (yielded.arm .b).job = none ∧ (yielded.arm .b).hand = .empty ∧
    (yielded.arm .b).nextOrder = none ∧
    yielded.mode.sendsRuns = true ∧ worksFor yielded .a 4 (assigned .mount) ∧
    (assigned .mount).cancelled = false ∧ (assigned .mount).drive ≠ none ∧
    (assigned .mount).volume = some 0 ∧ yielded.volume? 0 = some (reel "AAA000" ⟨0, 0, 0⟩) ∧
    (yielded.arm .a).state = .moving ∧ (yielded.arm .a).inFlight = none ∧
    (yielded.arm .a).nextOrder = some (.fetch ⟨0, 0, 0⟩) ∧
    (assigned .mount).currentOrder = some (.fetch ⟨0, 0, 0⟩) ∧
    (yielded.arm .a).hand.isEmpty = (Order.fetch ⟨0, 0, 0⟩).isTake ∧
    yielded.neededSpan .a (assigned .mount).run (some 0) = { low := 40, high := 100 } ∧
    100 + yielded.map.separation ≤ 900 ∧ ∀ k ∈ yielded.work.jobs, k.2.state ≠ .waiting := by decide
theorem test_meets_HomeDoneOrUnmatched_late :
    let s := withArm .a (fun a => { a with lastTimedOut := some 7 }) lib
    (∀ x f, (s.arm x).inFlight = some f → f.tag ≠ 7) ∧ (s.arm .a).lastTimedOut = some 7 ∧
      ∀ x, (s.arm x).lastTimedOut ≠ some 8 :=
  ⟨fun x f h => by cases x <;> exact (Option.some_ne_none f h.symm).elim, by decide,
    fun x => by cases x <;> decide⟩

theorem test_meets_MotionFaults_fetch : ∀ retry ∈ [false, true],
    let j := { assigned .mount with retryUsed := retry }
    let s := armWork (.fetch ⟨0, 0, 0⟩) .empty .cell j
    worksFor s .a 4 j ∧ j.state = .assigned ∧ flies s .a 5 (.fetch ⟨0, 0, 0⟩) ∧ j.kind = .mount ∧
      j.drive ≠ none ∧ j.cancelled = false ∧ j.volume = some 0 ∧
      s.volume? 0 = some (reel "AAA000" ⟨0, 0, 0⟩) ∧ (s.arm .a).state = .moving ∧
      (s.arm .a).hand = .empty ∧ s.mode.sendsRuns = true ∧ deskOpen s := by decide
theorem test_meets_MotionFaults_blocked :
    let s := armWork (.load 0) (.loaded (some 0)) (.arm .a) (assigned .mount)
    worksFor s .a 4 (assigned .mount) ∧ (assigned .mount).state = .assigned ∧ flies s .a 5 (.load 0) ∧
      Order.load 0 ≠ .home ∧ (Order.load 0).isYield = false ∧ (s.arm .a).state = .moving ∧
      s.mode ≠ .configure ∧ s.mode.isSafe = false ∧ (assigned .mount).cancelled = false ∧
      (assigned .mount).volume = some 0 ∧
      s.volume? 0 = some { reel "AAA000" ⟨0, 0, 0⟩ with location := .arm .a } ∧
      ∀ d : DriveId, Location.arm .a ≠ .drive d := by decide

/-- Arm A flying the FETCH of a job, with volume 0 at a location. -/
def fetching (l : Location) (j : Job) : State := armWork (.fetch ⟨0, 0, 0⟩) .empty l j

/-- The hypotheses of MotionFaults for a BLOCKED FETCH. -/
abbrev fetches (s : State) (j : Job) : Prop :=
  worksFor s .a 4 j ∧ j.state = .assigned ∧ flies s .a 5 (.fetch ⟨0, 0, 0⟩) ∧ (s.arm .a).state = .moving ∧
    s.mode ≠ .configure ∧ s.mode.isSafe = false ∧ j.legs[j.leg]? = some (.fetch ⟨0, 0, 0⟩)

theorem test_meets_MotionFaults_settled :
    (let j := { assigned .mount with cancelled := true }
    fetches (fetching .cell j) j ∧ j.cancelled = true ∧ j.returning = false) ∧
    (∀ k ∈ [JobKind.mount, .eject], let j := assigned k
    fetches (fetching (.drive 1) j) j ∧ j.kind = k ∧ j.volume = some 0 ∧
      (fetching (.drive 1) j).volume? 0 = some { reel "AAA000" ⟨0, 0, 0⟩ with location := .drive 1 } ∧
      j.cancelled = false ∧ j.scratch = false ∧ j.drive ≠ none) := by decide

theorem test_meets_SupervisionExpires_arm : let s := armWork (.load 0) (.loaded (some 0)) (.arm .a) (assigned .mount)
    (s.arm .a).inFlight = some { tag := 5, order := .load 0 } ∧ (s.arm .a).supervision.isRunning = true ∧
      (s.arm .a).state = .moving ∧ s.mode ≠ .configure ∧ s.mode.isSafe = false ∧ Order.load 0 ≠ .home ∧
      (Order.load 0).isYield = false ∧
      ((homing .idle).arm .a).inFlight = some { tag := 5, order := .home } ∧
      ((homing .idle).arm .a).supervision.isRunning = true ∧ (homing .idle).desk.prompts.length < 32 := by decide
theorem test_meets_SupervisionExpires_drive : ∀ k ∈ [MountKind.robot, .manual],
    let j := { work .mount .loading with mountKind := k }
    let s := driveWork .loading (.drive 0) j
    (s.drive 0).state = .loading ∧ (s.drive 0).loadTimer.isRunning = true ∧ (s.drive 0).job = some 4 ∧
      s.job? 4 = some j ∧ j.kind = .mount ∧ j.cancelled = false ∧ deskOpen s := by decide
theorem test_meets_SupervisionExpires_other :
    (let s := withDrive 0 { readyDrive with state := .cleaning, cleaningTimer := .running 1 } lib
    (s.drive 0).state = .cleaning ∧ (s.drive 0).cleaningTimer.isRunning = true) ∧
    (lib.arm .a).supervision.isRunning = false ∧ (lib.drive 0).loadTimer.isRunning = false ∧
    (lib.drive 0).cleaningTimer.isRunning = false := by decide

/-- Job 4 WAITING with its aging timer running, and both arms MOVING. -/
def aging (effective : Nat) : Job := { work .mount .waiting with aging := .running 1, effective := effective }

theorem test_meets_AgingReminderAndLimit_aging : ∀ n ∈ [2, 3], let s := withJob 4 (aging n) busy
    s.job? 4 = some (aging n) ∧ (aging n).state = .waiting ∧ (aging n).aging.isRunning = true ∧
      noIdleArm s := by decide

/-- The library with a MOUNT HELD ALLOWANCE and its APPROVE_MOUNT shown, under a policy default. -/
def approving (a : ApproveDefault) : State :=
  { withPrompt (asked .approveMount (.job { number := 4, sequence := 7 }))
      (driveWork .reserved .cell { work .mount (.held .allowance) with prompt := some 1 }) with
    policy := { lib.policy with approveDefault := a } }

theorem test_meets_AgingReminderAndLimit_reminder : let q := asked .approveMount (.job { number := 4, sequence := 7 })
    (approving .deny).prompt? 1 = some q ∧ q.reminderTimer.isRunning = true ∧
      (∃ c : Console, 1 ∈ ((approving .deny).console c).area) ∧
      ¬(approving .deny).policy.escalationCount ≤ min 7 (q.reminders + 1) ∧
      (approving .deny).policy.escalationCount ≤ min 7 (2 + 1) := by decide
theorem test_meets_AgingReminderAndLimit_limit : ∀ a ∈ [ApproveDefault.approve, .deny],
    let q := asked .approveMount (.job { number := 4, sequence := 7 })
    let j := { work .mount (.held .allowance) with prompt := some 1 }
    (approving a).prompt? 1 = some q ∧ q.limitTimer.isRunning = true ∧ q.kind = .approveMount ∧
      q.owner = .job (j.ref 4) ∧ (approving a).job? 4 = some j ∧ (approving a).policy.approveDefault = a ∧
      j.cancelled = false := by decide
theorem test_meets_AgingReminderAndLimit_information : let q := asked .foreignReel (.drive 0)
    (withPrompt q lib).prompt? 1 = some q ∧ q.limitTimer.isRunning = true ∧ q.kind ≠ .approveMount := by decide

/-- Job 4, a WAITING MOUNT of volume 0 on drive 0 under aging, with arm A and arm B idle at these positions. -/
def proposed (a b : Nat) : State :=
  withJob 4 { aging 1 with legs := [.fetch ⟨0, 0, 0⟩, .load 0] }
    { lib with arms := { armA := idleArm a, armB := idleArm b, tagCounter := 0 } }

/-- `proposed` with an EJECT ahead of the MOUNT, every hatch bay UNKNOWN. -/
def ahead : State :=
  let s := withJob 3 { work .eject .waiting with
    drive := none, volume := some 1, effective := 3, legs := [.fetch ⟨0, 1, 2⟩, .hatchPut none] } (proposed 100 900)
  { s with station := { s.station with hatch := Bank.replicate 4 .unknown } }

theorem test_meets_AssignmentPass : ∀ s ∈ [proposed 100 900, proposed 20 100, ahead],
    let k : Job := { aging 1 with legs := [.fetch ⟨0, 0, 0⟩, .load 0] }
    let j := { k with effective := 2, aging := .running (64 * (2 ^ s.policy.aging * 15)) }
    let u := s.updateJob 4 fun i => { i with
      effective := i.effective + 1, aging := .running (64 * (2 ^ s.policy.aging * 15)) }
    s.job? 4 = some k ∧ k.state = .waiting ∧ k.aging.isRunning = true ∧ k.effective < 3 ∧
      u.job? 4 = some j ∧ j.kind = .mount ∧ s.mode = .run ∧ j.volume = some 0 ∧
      s.volume? 0 = some (reel "AAA000" ⟨0, 0, 0⟩) ∧ (reel "AAA000" ⟨0, 0, 0⟩).ring = .ringIn ∧
      j.drive = some 0 ∧ j.legs[j.leg]? = some (.fetch ⟨0, 0, 0⟩) ∧ s.cellPosition ⟨0, 0, 0⟩ = some 40 ∧
      s.map.drivePositions.get 0 = some 100 ∧
      (∀ x ∈ [ArmId.a, .b], (s.arm x).claim ≠ none ∧ (s.isIdle x = true → (s.arm x).inFlight = none)) ∧
      ∀ i ∈ u.work.jobs, i.2.state = .waiting → i.1 = 4 ∨ goesBefore j i.2 ∨ passedOver u i.2 := by decide

/-- Of the three, arm A is clear in the first and the last and needs a yield of arm B in the second; the MOUNT is
ASSIGNED to it in each (R60, R78). -/
theorem test_pass_grants : [proposed 100 900, proposed 20 100, ahead].map (fun s =>
      let t := run (.agingExpiry 4) s
      ((t.job? 4).map Job.arm, (t.arm .a).inFlight.map InFlight.order, (t.arm .b).inFlight.map InFlight.order)) =
    [(some (some .a), some (.fetch ⟨0, 0, 0⟩), none),
      (some (some .a), none, some (.yieldTo 124)),
      (some (some .a), some (.fetch ⟨0, 0, 0⟩), none)] := by decide
theorem test_meets_AssignmentPass_quiescing : let s := inMode .quiescing (proposed 100 900)
    s.mode = .quiescing ∧ (s.job? 4).map Job.state = some .waiting := by decide

/-- Arm A flying a put for job 4 with volume 0 in its hand and all the rail claimed. -/
def putting (o : Order) (j : Job) : State :=
  withArm .a (fun a => { a with claim := some { low := 0, high := 800 } })
    (armWork o (.loaded (some 0)) (.arm .a) j)

theorem test_meets_PutsFault : ∀ e ∈ [(Order.stow ⟨0, 0, 0⟩, assigned .demount),
      (.hatchPut 3, { assigned .eject with legs := [.hatchPut (some 3)] }),
      (.ringPut 1, { assigned .mount with legs := [.ringPut 1] }),
      (.load 0, { assigned .mount with leg := 1 }), (.load 0, { assigned .mount with leg := 1, retryUsed := true })],
    let s := putting e.1 e.2
    worksFor s .a 4 e.2 ∧ e.2.state = .assigned ∧ e.2.volume = some 0 ∧
      s.volume? 0 = some { reel "AAA000" ⟨0, 0, 0⟩ with location := .arm .a } ∧ (s.arm .a).state = .moving ∧
      (s.arm .a).hand = .loaded (some 0) ∧ flies s .a 5 e.1 ∧ s.mode.sendsRuns = true ∧
      (e.1 = .stow ⟨0, 0, 0⟩ ∨ e.2.currentOrder = some e.1) ∧ s.freeHatches = [0, 1, 2, 3] ∧
      s.freeRings = [0, 1] ∧ s.map.hatchPositions.get 0 = some 600 ∧
      s.map.ringPositions.get 0 = some 500 ∧ e.2.drive ≠ none ∧ (s.drive 0).state = .reserved ∧
      (s.drive 0).job = some 4 ∧ ((s.homeCell 0).bind s.cellPosition).toList = [40] := by decide
theorem test_meets_PutsFault_full :
    let s := { putting (.stow ⟨0, 0, 0⟩) (assigned .demount) with
      station := { ring := Bank.replicate 2 .unknown, hatch := Bank.replicate 4 .unknown } }
    s.freeHatches = [] ∧ s.freeRings = [] ∧ flies s .a 5 (.stow ⟨0, 0, 0⟩) := by decide
theorem test_meets_PutsFault_stopped : ∀ m ∈ [Mode.safe .run, .run],
    let j := { assigned .mount with leg := 1 }
    let s := inMode m (putting (.load 0) j)
    worksFor s .a 4 j ∧ flies s .a 5 (.load 0) ∧ (s.arm .a).state = .moving ∧
      (Order.load 0).isTake = false ∧ (∀ c ∈ [Cell.mk 0 0 0], j.legs[j.leg]? ≠ some (.fetch c)) ∧
      j.legs[j.leg]? = some (.load 0) ∧ s.mode ≠ .configure := by decide

theorem test_meets_CancelJudged : let j := { work .mount .waiting with cancelled := true }
    reserved.jobByTag 2 9 = none ∧ permits reserved 0 ∧ reserved.job? 5 = none ∧ ¬permits reserved 1 ∧
      cancels reserved 1 4 (.byTag 9) ∧ cancels reserved 0 4 (.byNumber 4) ∧
      (withJob 4 j reserved).job? 4 = some j ∧ cancels (withJob 4 j reserved) 0 4 (.byNumber 4) := by decide
theorem test_meets_CancelJudged_late : (∀ j ∈ [{ work .mount .waiting with returning := true },
      work .mount (.held .wrongReel), { work .demount (.held .hatchFull) with disposal := .stowFault ⟨0, 0, 0⟩ },
      work .demount .assigned, { work .demount .waiting with legs := [.stow ⟨0, 0, 0⟩] }, work .clean .cleanWait,
      { work .clean .waiting with legs := [.pull 0, .stow ⟨0, 0, 0⟩] }, work .enter .waiting],
    cancels (withJob 4 j lib) 0 4 (.byNumber 4) ∧ (withJob 4 j lib).job? 4 = some j ∧ j.cancelled = false ∧
      tooLate j) ∧
    ∀ j ∈ [{ work .demount .waiting with legs := [.pull 0, .stow ⟨0, 0, 0⟩] }, work .demount .unloadWait,
      { work .clean (.held .hatchFull) with legs := [.pull 0, .hatchPut none], leg := 1 }, work .enter .manual,
      work .eject .waiting], ¬tooLate j := by decide
theorem test_meets_CancelJudged_hand :
    ∀ j ∈ [{ assigned .mount with leg := 1 }, { assigned .clean with leg := 1 },
      { assigned .mount with legs := [.fetch ⟨0, 0, 0⟩, .ringPut 0], leg := 1, state := .held .ringFull },
      { assigned .eject with legs := [.hatchPut none], state := .held .hatchFull }],
    let s := putting (.load 0) j
    worksFor s .a 4 j ∧ cancels s 0 4 (.byNumber 4) ∧ j.cancelled = false ∧ ¬tooLate j ∧ j.volume = some 0 ∧
      s.homeCell 0 = some ⟨0, 0, 0⟩ ∧ (s.arm .a).hand = .loaded (some 0) ∧ (s.arm .a).inFlight ≠ none ∧
      j.currentOrder.all (fun o => !o.isTake) = true := by decide

/-- A CLEAN job whose LOAD is refused for the second time is turned home with no CANCEL accepted, so that one is
TOO_LATE, and its end leaves the drive CLEAN_DUE with no job (R44, R64, R83). -/
theorem test_refused_clean :
    let j := { assigned .clean with leg := 1, retryUsed := true, origin := none }
    let s := withDrive 0 { readyDrive with state := .cleanDue, job := some 4 } (putting (.load 0) j)
    let t := run (.completionFault 5 100 .refused) s
    let stowed := (t.arm .a).inFlight.map fun f => run (.completionDone f.tag 40 false) t
    run (.cancel 0 7 (.byNumber 4)) t = afterSending [response 0 7 .cancel .tooLate] t ∧
      stowed.map (fun u => ((u.drive 0).state, (u.drive 0).job, u.work.jobs)) = some (.cleanDue, none, []) := by
  decide +kernel

/-- A STOW that returns a SCRATCH volume its job does not name makes it available to the job HELD NO_SCRATCH, which
is given it in the pass that follows (R10, R57). -/
theorem test_stow_makes_available :
    let w := { work .mount (.held .noScratch) with
      drive := some 1, volume := none, serial := none, scratch := true, sequence := 8 }
    let s := armWork (.stow ⟨0, 0, 0⟩) (.loaded (some 0)) (.arm .a) { assigned .demount with volume := none }
    let scratch := { reel "AAA000" ⟨0, 0, 0⟩ with location := .arm .a, pool := .scratchPool }
    let t := run (.completionDone 5 40 false) (withVolume 0 scratch (withJob 6 w s))
    (t.job? 6).map (fun j => (j.state, j.volume)) = some (.assigned, some 0) := by
  decide +kernel

/-- Arm A homing after a fault of an order for job 4, with its hand and volume 0 as given. -/
def rehoming (o : Order) (h : Hand) (l : Location) (j : Job) : State :=
  withArm .a (fun a => { a with
    state := .rehoming false, interrupted := some { order := o, how := .faulted } }) (armWork .home h l j)

/-- The hypotheses of RehomingJudged. -/
abbrev rehomes (s : State) (o : Order) (l : Location) (j : Job) : Prop :=
  flies s .a 5 .home ∧ (s.arm .a).state = .rehoming false ∧ worksFor s .a 4 j ∧ j.state = .assigned ∧
    j.cancelled = false ∧ j.drive ≠ none ∧ j.volume = some 0 ∧
    s.volume? 0 = some { reel "AAA000" ⟨0, 0, 0⟩ with location := l } ∧ j.currentOrder = some o ∧
    (s.arm .a).interrupted = some { order := o, how := .faulted }

theorem test_meets_RehomingJudged : ∀ retry ∈ [false, true],
    let j := { assigned .mount with retryUsed := retry }
    let s := rehoming (.fetch ⟨0, 0, 0⟩) .empty .cell j
    rehomes s (.fetch ⟨0, 0, 0⟩) .cell j ∧ s.homedAt ⟨0, 0, 0⟩ = some 0 ∧ s.locatedAt (.arm .a) = none ∧
      deskOpen s := by decide
theorem test_meets_RehomingJudged_puts : ∀ e ∈ [(Order.stow ⟨0, 0, 0⟩, { assigned .demount with
      legs := [.pull 0, .stow ⟨0, 0, 0⟩], leg := 1 }), (.load 0, { assigned .mount with leg := 1 }),
      (.load 0, { assigned .mount with leg := 1, retryUsed := true })],
    let s := rehoming e.1 (.loaded (some 0)) (.arm .a) e.2
    rehomes s e.1 (.arm .a) e.2 ∧ (s.arm .a).hand = .loaded (some 0) ∧ e.1.isTake = false ∧
      (s.drive 0).state = .reserved ∧ (s.drive 0).job = some 4 ∧ s.locatedAt (.drive 0) = none := by decide

/-- Arm A coming back from DISABLED at 50 with the reel of job 4 in its hand, whose ring bay was lost: every ring
bay UNKNOWN, the reel's home at 400, and arm B in a state at 200 with this claim. -/
def lostPut (b : ArmState) (c : Span) : State :=
  let j := { assigned .mount with
    state := .held .armLost, legs := [.fetch ⟨0, 0, 0⟩, .ringPut 0, .ringTake 0, .load 0], leg := 1 }
  let s := armWork .home (.loaded (some 0)) (.arm .a) j
  { withArm .a (fun a => { a with state := .rehoming true, position := some 50, claim := some ⟨0, 50⟩ })
      (withArm .b (fun a => { a with state := b, position := some 200, claim := some c }) s) with
    map := { s.map with columns := [(0, 400)] }
    station := { s.station with ring := Bank.replicate 2 .unknown } }

/-- With no bay in reach the job is HELD RING_FULL, and the arm keeps its claim until the span up to the reel's
home is granted: it waits for a busy arm B, and an idle one yields (R76, R77, R88). -/
theorem test_restored_without_bay :
    [lostPut .moving ⟨200, 500⟩, lostPut .idle ⟨200, 200⟩].map (fun s =>
      let t := run (.completionDone 5 0 true) s
      ((t.job? 4).map Job.state, (t.arm .a).claim, (t.arm .b).inFlight.map InFlight.order)) =
    [(some (.held .ringFull), some ⟨0, 50⟩, none),
      (some (.held .ringFull), some ⟨0, 50⟩, some (.yieldTo 424))] := by decide
theorem test_restored_without_bay_extends :
    let t := run (.completionDone 0 424 false) (run (.completionDone 5 0 true) (lostPut .idle ⟨200, 200⟩))
    ((t.arm .a).claim, (t.arm .b).claim) = (some ⟨0, 400⟩, some ⟨424, 424⟩) := by decide

/-! The operators. -/

theorem test_meets_ReplyTaken : let q := asked .armFault (.arm .a)
    lib.prompt? 1 = none ∧ (withPrompt q lib).prompt? 1 = some q ∧ 1 ∉ ((withPrompt q lib).console 1).area ∧
      1 ∈ ((withPrompt q lib).console 0).area ∧ Machine.Word.approve ≠ .defer ∧
      Machine.Word.approve ∉ q.allowed ∧ takes (withPrompt q lib) 0 1 .parked q ∧
      Machine.Word.parked ≠ .defer := by decide

theorem test_meets_DoneActs_service : let q := asked .driveService (.drive 0)
    let s := withPrompt q (drive0 .service)
    takes s 0 1 .done q ∧ q.kind = .driveService ∧ q.owner = .drive 0 ∧ (s.drive 0).state = .service := by decide
theorem test_meets_DoneActs_hatch : let q := asked .takeFromHatch (.hatch 3)
    let e := { reel "AAA000" ⟨0, 0, 0⟩ with location := .hatch 3 }
    let s := withPrompt q ((withVolume 0 e lib).setHatch 3 (.holding 0 none))
    takes s 0 1 .done q ∧ q.owner = .hatch 3 ∧ s.station.hatch.get 3 = .holding 0 none ∧
      s.volume? 0 = some e := by decide

/-- Job 4 with a prompt of this kind shown, drive 0 and volume 0 as given. -/
def prompted (k : PromptKind) (d : DriveState) (l : Location) (j : Job) : State :=
  withPrompt { asked k (.job (j.ref 4)) with params := { drive := some 0 } } (driveWork d l j)

/-- The hypotheses of DoneActs and JobRepliesAct for a prompt of job 4. -/
abbrev owns (s : State) (w : Machine.Word) (k : PromptKind) (l : Location) (j : Job) : Prop :=
  let q := { asked k (.job (j.ref 4)) with params := { drive := some 0 } }
  takes s 0 1 w q ∧ q.owner = .job (j.ref 4) ∧ s.job? 4 = some j ∧ j.volume = some 0 ∧
    s.volume? 0 = some { reel "AAA000" ⟨0, 0, 0⟩ with location := l }

theorem test_meets_DoneActs_rings : ∀ k ∈ [PromptKind.fitRing, .removeRing],
    let j := { work .mount .atRing with prompt := some 1, ringBay := some 0 }
    owns (prompted k .reserved (.ring 0) j) .done k (.ring 0) j := by decide
theorem test_meets_DoneActs_place : let j := { work .enter .manual with prompt := some 1, hatchBay := some 3 }
    owns (prompted .placeInHatch .empty .shelf j) .done .placeInHatch .shelf j ∧ j.hatchBay = some 3 := by
  decide
theorem test_meets_DoneActs_mount :
    owns (prompted .mountByHand .reserved .shelf manualJob) .done .mountByHand .shelf manualJob ∧
      manualJob.drive = some 0 := by decide
theorem test_meets_DoneActs_demount : let j := { work .demount .manual with prompt := some 1 }
    let s := prompted .demountByHand .awaitingPull (.drive 0) j
    owns s .done .demountByHand (.drive 0) j ∧ j.kind = .demount ∧ j.cancelled = false ∧
      s.locatedAt (.drive 0) = some 0 ∧ j.drive = some 0 ∧ (s.drive 0).state = .awaitingPull ∧
      (s.drive 0).draining = false ∧ notDue (s.drive 0) ∧ (s.drive 0).job = some 4 := by decide

/-- Arm A DISABLED with a hand and its ARM_FAULT shown. -/
def broken (h : Hand) : State :=
  withPrompt (asked .armFault (.arm .a)) (withArm .a (fun a => { a with state := .disabled, hand := h })
    (withVolume 0 { reel "AAA000" ⟨0, 0, 0⟩ with location := .arm .a } lib))

theorem test_meets_ArmRepliesAct : let q := asked .armFault (.arm .a)
    ∀ w ∈ [Machine.Word.restored, .parked, .removed], ∀ h ∈ [Hand.empty, .loaded (some 0)],
    takes (broken h) 0 1 w q ∧ q.kind = .armFault ∧ q.owner = .arm .a ∧
      ((broken h).arm .a).state = .disabled ∧ ((broken h).arm .a).inFlight = none ∧
      (broken h).mode ≠ .configure ∧ (broken h).mode.isSafe = false ∧ ((broken h).arm .a).hand = h ∧
      ((broken h).volume? 0).isSome = true := by decide

theorem test_meets_JobRepliesAct_approval : ∀ w ∈ [Machine.Word.approve, .deny],
    let j := { work .mount (.held .allowance) with prompt := some 1 }
    takes (approving .deny) 0 1 w (asked .approveMount (.job (j.ref 4))) ∧
      (approving .deny).job? 4 = some j ∧ j.cancelled = false := by decide
theorem test_meets_JobRepliesAct_cancel :
    owns (prompted .mountByHand .reserved .shelf manualJob) .cancel .mountByHand .shelf manualJob ∧
    (let j := { work .enter .manual with prompt := some 1, hatchBay := some 3 }
    owns (prompted .placeInHatch .empty .shelf j) .cancel .placeInHatch .shelf j) ∧
    (let j := { work .mount (.held .suspect) with prompt := some 1 }
    owns (prompted .checkReel .reserved .cell j) .cancel .checkReel .cell j) ∧
    (∀ k ∈ [JobKind.mount, .eject], let j := { work k (.held .uncertain) with prompt := some 1 }
    owns (prompted .verifyVolume .reserved .uncertain j) .cancel .verifyVolume .uncertain j ∧
      j.kind = k ∧ j.scratch = false) ∧
    (let j := { work .mount .atRing with prompt := some 1, ringBay := some 1 }
    owns (prompted .fitRing .reserved (.ring 1) j) .cancel .fitRing (.ring 1) j ∧ j.ringBay = some 1) := by decide
theorem test_meets_JobRepliesAct_retry :
    ∀ j ∈ [{ work .mount (.held .suspect) with prompt := some 1 },
      { work .mount (.held .reelCheck) with prompt := some 1, legs := [.fetch ⟨0, 0, 0⟩, .load 0] }],
    owns (prompted .checkReel .reserved .cell j) .retry .checkReel .cell j ∧
      (j.state = .held .suspect ∨
        j.state = .held .reelCheck ∧ j.legs[j.leg]? = some (.fetch ⟨0, 0, 0⟩)) := by decide
theorem test_meets_JobRepliesAct_verify : ∀ w ∈ [Machine.Word.inCell, .outside],
    let j := { work .eject (.held .uncertain) with prompt := some 1 }
    owns (prompted .verifyVolume .empty .uncertain j) w .verifyVolume .uncertain j ∧
      (reel "AAA000" ⟨0, 0, 0⟩).home = .cell ⟨0, 0, 0⟩ ∧ j.kind = .eject ∧ j.scratch = false ∧
      j.cancelled = false := by decide

/-- Job 4 HELD REEL_CHECK at a take from a bay, with its CHECK_REEL shown. -/
def atBay (k : JobKind) (g : Leg) (l : Location) : State :=
  prompted .checkReel .empty l
    { work k (.held .reelCheck) with prompt := some 1, legs := [g], ringBay := some 1, counted := .allowance }

theorem test_meets_BayRepliesAct_library : let q := asked .checkReel (.library 1)
    let s := withPrompt q (lib.setRing 1 .unknown)
    takes s 0 1 .retry q ∧ takes s 0 1 .cancel q ∧ q.owner = .library 1 ∧
      s.station.ring.get 1 = .unknown := by decide
theorem test_meets_BayRepliesAct_hatch : let q := asked .takeFromHatch (.hatch 3)
    let s := withPrompt q (lib.setHatch 3 .unknown)
    takes s 0 1 .done q ∧ q.owner = .hatch 3 ∧ s.station.hatch.get 3 = .unknown := by decide
theorem test_meets_BayRepliesAct_ring : ∀ k ∈ [JobKind.mount, .demount],
    let r : JobRef := { number := 4, sequence := 7 }
    let s := (atBay k (.ringTake 1) (.ring 1)).setRing 1 (.holding 0 (some r))
    ∃ j, s.job? 4 = some j ∧ owns s .retry .checkReel (.ring 1) j ∧ owns s .cancel .checkReel (.ring 1) j ∧
      j.state = .held .reelCheck ∧ j.arm = none ∧ j.currentOrder = some (.ringTake 1) ∧
      j.legs[j.leg]? = some (.ringTake 1) ∧ s.station.ring.get 1 = .holding 0 (some (j.ref 4)) ∧
      j.ringBay = some 1 ∧ j.kind = k ∧ j.cancelled = false ∧ j.returning = false ∧ j.counted ≠ .none :=
  fun k hk => ⟨_, rfl, by revert k; decide⟩
theorem test_meets_BayRepliesAct_enter :
    let r : JobRef := { number := 4, sequence := 7 }
    let s := (atBay .enter (.hatchTake 3) (.hatch 3)).setHatch 3 (.holding 0 (some r))
    ∃ j, s.job? 4 = some j ∧ owns s .cancel .checkReel (.hatch 3) j ∧ j.state = .held .reelCheck ∧
      j.legs[j.leg]? = some (.hatchTake 3) ∧ j.kind = .enter ∧ j.cancelled = false ∧
      s.station.hatch.get 3 = .holding 0 (some (j.ref 4)) := ⟨_, rfl, by decide⟩

/-- A prompt of a number and severity. -/
def ranked (n : Nat) (g : PromptSeverity) : Prompt :=
  { asked .armFault (.arm .a) with number := n, severity := g, deferTimers := Bank.replicate 2 (.running 1) }

/-- Console 0 with the prompts 1 to `shown` at a severity and prompt 9, of severity ACTION or less, deferred. -/
def deferring (shown : Nat) (g h : PromptSeverity) : State :=
  { lib with desk := { lib.desk with
      prompts := (List.range shown).map (fun n => ranked (n + 1) g) ++ [ranked 9 h]
      consoles := lib.desk.consoles.set 0
        { area := (List.range shown).map (· + 1), deferred := [9] } } }

theorem test_meets_DeferAndRecall_defer : let q := asked .armFault (.arm .a)
    let s := withPrompt q lib
    let full := { s with desk := { s.desk with consoles := s.desk.consoles.update 0 fun k =>
      { k with deferred := [2, 3, 4, 5] } } }
    s.prompt? 1 = some q ∧ 1 ∈ (s.console 0).area ∧ (s.console 0).deferred.length < 4 ∧
      full.prompt? 1 = some q ∧ 4 ≤ (full.console 0).deferred.length ∧ (lib.console 0).deferred = [] := by decide
theorem test_meets_DeferAndRecall_recall :
    (deferring 3 .action .action).prompt? 9 = some (ranked 9 .action) ∧
    ((deferring 3 .action .action).console 0).deferred = [9] ∧
    ((ranked 9 .action).deferTimers.get 0).isRunning = true ∧
    ((deferring 3 .action .action).console 0).area.length < 4 ∧
    ¬((deferring 4 .decision .action).console 0).area.length < 4 ∧
    (∃ p ∈ (deferring 4 .decision .action).areaPrompts 0,
      severityRank p.severity < severityRank PromptSeverity.action) ∧
    ¬((deferring 4 .decision .decision).console 0).area.length < 4 ∧
    (∀ p ∈ (deferring 4 .decision .decision).areaPrompts 0,
      ¬severityRank p.severity < severityRank PromptSeverity.decision) ∧
    ((asked .armFault (.arm .a)).deferTimers.get 0).isRunning = false := by decide

end Sys2Proof.Tests
end

section
/-!
SUPPORT. Work on the prompts alone: what posting, closing and withdrawing a prompt leaves as it was, the
numbers their owners keep of them apart, and which prompts stay open (R109 to R127).
-/

namespace Sys2Proof.DriveString

open Machine

/-! ### What the work on prompts leaves -/

/-- A drive without the numbers of its prompts. -/
def unaskedDrive (e : Drive) : Drive := { e with servicePrompt := none, handDemountPrompt := none }

/-- An arm without the number of its prompt. -/
def unaskedArm (a : Arm) : Arm := { a with faultPrompt := none }

/-- A job without the number of its prompt. -/
def unaskedJob (j : Job) : Job := { j with prompt := none }

/-- A state without its prompts, the numbers that drives and arms keep of them, its jobs and the frames
sent. -/
def unasked (s : State) : State :=
  { s with
    desk := State.reset.desk
    drives := s.drives.map unaskedDrive
    work := { s.work with jobs := [] }
    arms := { s.arms with armA := unaskedArm s.arms.armA, armB := unaskedArm s.arms.armB }
    sent := [] }

/-- The kind and owner of the open prompt with a number. -/
def prompted (s : State) (m : Nat) : Option (PromptKind × Owner) :=
  (s.prompt? m).map fun p => (p.kind, p.owner)

/-- From `s` to `t` nothing but prompts has been worked on: frames are sent, owners keep other numbers, and
the open prompts stay but for those that `W` holds of. -/
structure Asked (W : Nat → Owner → Prop) (s t : State) : Prop where
  rest : unasked t = unasked s
  job : ∀ n, (t.job? n).map unaskedJob = (s.job? n).map unaskedJob
  sent : s.sent <+: t.sent
  prompt : ∀ m x, prompted s m = some x → ¬W m x.2 → prompted t m = some x

namespace Asked

variable {W W' : Nat → Owner → Prop} {s t u : State}

theorem refl (s : State) : Asked W s s := ⟨rfl, fun _ => rfl, List.prefix_rfl, fun _ _ h _ => h⟩

theorem trans (h : Asked W s t) (k : Asked W t u) : Asked W s u where
  rest := k.rest.trans h.rest
  job n := (k.job n).trans (h.job n)
  sent := h.sent.trans k.sent
  prompt m x hx hw := k.prompt m x (h.prompt m x hx hw) hw

theorem mono (h : Asked W s t) (hW : ∀ m x, prompted s m = some x → W m x.2 → W' m x.2) : Asked W' s t where
  rest := h.rest
  job := h.job
  sent := h.sent
  prompt m x hx hw := h.prompt m x hx fun k => hw (hW m x hx k)

/-- A fold of steps that each work on prompts alone. -/
theorem foldl {ι : Type} {f : State → ι → State} (h : ∀ s i, Asked W s (f s i)) (l : List ι) (s : State) :
    Asked W s (l.foldl f s) := by
  induction l generalizing s with
  | nil => exact refl s
  | cons i rest ih => exact (h s i).trans (ih _)

theorem still (h : Asked W s t) : t.still = s.still :=
  (congrArg State.still h.rest :)

theorem station (h : Asked W s t) : t.station = s.station := congrArg (·.station) h.rest
theorem notices (h : Asked W s t) : t.notices = s.notices := congrArg (·.notices) h.rest
theorem control (h : Asked W s t) : t.control = s.control := congrArg (·.control) h.rest
theorem owed (h : Asked W s t) : t.work.owed = s.work.owed := congrArg (·.work.owed) h.rest

theorem drive (h : Asked W s t) (d : DriveId) : unaskedDrive (t.drive d) = unaskedDrive (s.drive d) := by
  have := congrArg (fun u : State => u.drive d) h.rest
  simpa only [unasked, State.drive, Bank.get_map] using this

theorem arm (h : Asked W s t) (x : ArmId) : unaskedArm (t.arm x) = unaskedArm (s.arm x) := by
  have := congrArg (fun u : State => u.arm x) h.rest
  cases x <;> exact this

/-- A job on the list stays on it, but for the number of its prompt. -/
theorem job_some (h : Asked W s t) {n : Nat} {j : Job} (hj : s.job? n = some j) :
    ∃ p, t.job? n = some { j with prompt := p } := by
  have := h.job n
  rw [hj] at this
  cases e : t.job? n with
  | none => simp [e] at this
  | some k =>
    refine ⟨k.prompt, ?_⟩
    simp only [e, Option.map_some, Option.some.injEq] at this
    have hk : k = { unaskedJob k with prompt := k.prompt } := rfl
    rw [hk, this]; rfl

end Asked

/-! ### Settling the areas (R116) -/

/-- From `s` to `t` frames have been sent and the consoles' lists have changed, but no prompt's number, kind
or owner. -/
structure Settled (s t : State) : Prop where
  same : t = { s with desk := t.desk, sent := t.sent }
  sent : s.sent <+: t.sent
  names : t.desk.prompts.map (fun p => (p.number, p.kind, p.owner)) =
    s.desk.prompts.map fun p => (p.number, p.kind, p.owner)
  owed : t.desk.owed = s.desk.owed

namespace Settled

variable {s t u : State}

theorem refl (s : State) : Settled s s := ⟨rfl, List.prefix_rfl, rfl, rfl⟩

theorem trans (h : Settled s t) (k : Settled t u) : Settled s u where
  same := by rw [k.same, h.same]
  sent := h.sent.trans k.sent
  names := k.names.trans h.names
  owed := k.owed.trans h.owed

/-- The kind and owner under a number are read from the names of the prompts. -/
theorem prompted_eq (s : State) (m : Nat) :
    prompted s m = ((s.desk.prompts.map fun p => (p.number, p.kind, p.owner)).find? fun e => e.1 = m).map
      Prod.snd := by
  simp [prompted, State.prompt?, List.find?_map, Function.comp_def]

theorem prompted (h : Settled s t) (m : Nat) : prompted t m = DriveString.prompted s m := by
  rw [prompted_eq, prompted_eq, h.names]

theorem length (h : Settled s t) : t.desk.prompts.length = s.desk.prompts.length := by
  simpa using congrArg List.length h.names

theorem asked {W : Nat → Owner → Prop} (h : Settled s t) : Asked W s t where
  rest := by rw [h.same]; rfl
  job n := by rw [h.same]; rfl
  sent := h.sent
  prompt m x hx _ := by rw [h.prompted, hx]

end Settled

section
variable (s : State)

theorem emit_settled (f : Sent) : Settled s (s.emit f) :=
  ⟨rfl, List.prefix_append _ _, rfl, rfl⟩

theorem tellConsole_settled (c : Console) (f : ConsoleFrame) : Settled s (s.tellConsole c f) :=
  emit_settled _ _

theorem updateConsole_settled (c : Console) (f : ConsoleState → ConsoleState) :
    Settled s (s.updateConsole c f) := ⟨rfl, List.prefix_rfl, rfl, rfl⟩

theorem retime_settled (n : Nat) (p : PromptPosition) : Settled s (s.retime n p) where
  same := rfl
  sent := List.prefix_rfl
  names := by
    simp only [State.retime, State.updatePrompt, List.map_map]
    refine List.map_congr_left fun q _ => ?_
    simp only [Function.comp_apply]
    split <;> rfl
  owed := rfl

theorem sendShow_settled (c : Console) (n : Nat) : Settled s (s.sendShow c n) := by
  unfold State.sendShow
  split
  · exact tellConsole_settled _ _ _
  · exact .refl s

theorem enterArea_settled (c : Console) (n : Nat) : Settled s (s.enterArea c n) :=
  ((updateConsole_settled s c _).trans (retime_settled _ n _)).trans (sendShow_settled _ c n)

theorem displace_settled (c : Console) (n : Nat) : Settled s (s.displace c n) :=
  ((updateConsole_settled s c _).trans (retime_settled _ n _)).trans (tellConsole_settled _ c _)

theorem settleStep_settled (c : Console) (t : State) (h : s.settleStep c = some t) : Settled s t := by
  unfold State.settleStep at h
  split at h
  · simp at h
  · split at h
    · obtain rfl := Option.some.inj h
      exact enterArea_settled _ _ _
    · split at h
      · split at h
        · obtain rfl := Option.some.inj h
          exact (displace_settled _ _ _).trans (enterArea_settled _ _ _)
        · simp at h
      · simp at h

theorem settleWith_settled (c : Console) (fuel : Nat) : Settled s (s.settleWith c fuel) := by
  induction fuel generalizing s with
  | zero => exact .refl s
  | succ fuel ih =>
    unfold State.settleWith
    split
    · next t h => exact (settleStep_settled s c t h).trans (ih t)
    · exact .refl s

theorem settleBoth_settled : Settled s s.settleBoth :=
  (settleWith_settled s 0 32).trans (settleWith_settled _ 1 32)

theorem sendRemove_settled (n : Nat) (w : RemoveReason) (c : Console) : Settled s (s.sendRemove n w c) := by
  unfold State.sendRemove
  split
  · exact tellConsole_settled _ _ _
  · exact .refl s

/-! ### Posting (R111 to R113) -/

theorem updateJob_asked {W : Nat → Owner → Prop} (n : Nat) (f : Job → Job)
    (hf : ∀ j, unaskedJob (f j) = unaskedJob j) : Asked W s (s.updateJob n f) where
  rest := rfl
  job m := by
    by_cases h : n = m
    · subst h
      rw [updateJob_job, Option.map_map]
      exact congrArg (fun g => (s.job? n).map g) (funext hf)
    · rw [updateJob_job_ne _ _ _ _ h]
  sent := List.prefix_rfl
  prompt _ _ h _ := h

theorem updateDrive_asked {W : Nat → Owner → Prop} (d : DriveId) (f : Drive → Drive)
    (hf : ∀ e, unaskedDrive (f e) = unaskedDrive e) : Asked W s (s.updateDrive d f) where
  rest := by
    have : (s.drives.update d f).map unaskedDrive = s.drives.map unaskedDrive := by
      simp only [Bank.map, Bank.update, Bank.set, List.map_set, hf, Bank.mk.injEq]
      exact List.ext_getElem (by simp) fun i _ _ => by
        rw [List.getElem_set]
        split
        · next e => subst e; simp [Bank.get]
        · rfl
    simp only [unasked, State.updateDrive, this]
  job _ := rfl
  sent := List.prefix_rfl
  prompt _ _ h _ := h

theorem updateArm_asked {W : Nat → Owner → Prop} (x : ArmId) (f : Arm → Arm)
    (hf : ∀ a, unaskedArm (f a) = unaskedArm a) : Asked W s (s.updateArm x f) where
  rest := by
    cases x <;> simp only [unasked, State.updateArm, State.setArm, State.arm, hf]
  job _ := by cases x <;> rfl
  sent := by cases x <;> exact List.prefix_rfl
  prompt _ _ h _ := by cases x <;> exact h

/-- A change of the table of prompts or of the owed ones under which the open prompts stay. -/
theorem withDesk_asked {W : Nat → Owner → Prop} (k : PromptControl)
    (h : ∀ m x, prompted s m = some x → ¬W m x.2 → prompted { s with desk := k } m = some x) :
    Asked W s { s with desk := k } where
  rest := rfl
  job _ := rfl
  sent := List.prefix_rfl
  prompt := h

theorem recordPrompt_asked {W : Nat → Owner → Prop} (o : Owner) (k : PromptKind) (n : Nat) :
    Asked W s (s.recordPrompt o k n) := by
  unfold State.recordPrompt
  split
  · split
    · exact updateJob_asked _ _ _ fun _ => rfl
    · exact .refl s
  · exact updateArm_asked _ _ _ fun _ => rfl
  · split
    · exact updateDrive_asked _ _ _ fun _ => rfl
    · exact updateDrive_asked _ _ _ fun _ => rfl
    · exact .refl s
  · exact .refl s
  · exact .refl s

/-- The number a prompt takes is the first of the counter's run that is not taken, or the last tried. -/
theorem freeNumberFrom_taken (fuel n : Nat) (h : (s.prompt? (s.freeNumberFrom fuel n)).isSome) :
    ∀ i < fuel, (s.prompt? (promptNumber n i)).isSome := by
  induction fuel generalizing n with
  | zero => simp
  | succ fuel ih =>
    unfold State.freeNumberFrom at h
    split at h
    · next hn =>
      intro i hi
      cases i with
      | zero => exact hn
      | succ i =>
        have := ih _ h i (by omega)
        have e : promptNumber (n % 9999 + 1) i = promptNumber n (i + 1) := by
          unfold promptNumber
          split
          · next hz => subst hz; simp
          · simp only [Nat.add_eq_zero_iff, one_ne_zero, and_false, if_false]; omega
        rwa [e] at this
    · next hn => exact absurd h hn

/-- While the table has a free entry the next number is that of no open prompt (R111). -/
theorem freeNumber_free (h : s.desk.prompts.length < 32) :
    s.prompt? (s.freeNumberFrom 33 s.desk.nextNumber) = none := by
  by_contra hne
  have taken := freeNumberFrom_taken s 33 s.desk.nextNumber (Option.isSome_iff_ne_none.mpr hne)
  have nodup : ((List.range 33).map (promptNumber s.desk.nextNumber)).Nodup := by
    refine List.Nodup.map_on (fun i hi k hk e => ?_) List.nodup_range
    simp only [List.mem_range] at hi hk
    unfold promptNumber at e
    split at e <;> split at e <;> omega
  have sub : (List.range 33).map (promptNumber s.desk.nextNumber) ⊆ s.desk.prompts.map Prompt.number := by
    intro m hm
    obtain ⟨i, hi, rfl⟩ := List.mem_map.mp hm
    obtain ⟨p, hp⟩ := Option.isSome_iff_exists.mp (taken i (List.mem_range.mp hi))
    have e : p.number = promptNumber s.desk.nextNumber i := by simpa using List.find?_some hp
    exact List.mem_map.mpr ⟨p, List.mem_of_find?_eq_some hp, e⟩
  have := (nodup.subperm sub).length_le
  simp at this
  omega

/-- The prompt that a posting makes under a number (R112). -/
def newPrompt (s : State) (q : OwedPrompt) (n : Nat) : Prompt :=
  { number := n, kind := q.kind, severity := kindSeverity q.kind, owner := q.owner, params := q.params
    allowed := kindReplies q.kind q.removedAllowed
    targets := s.desk.routing.get (promptKindIndex q.kind)
    escalated := false, posted := s.stamp, reminders := 0, reminderTimer := .stopped
    deferTimers := Bank.replicate 2 .stopped, limitTimer := s.policy.limitTimer (kindSeverity q.kind) }

/-- The state with a prompt joined to the open ones under a number. -/
def enlisted (s : State) (q : OwedPrompt) (n : Nat) : State :=
  { s with desk := { s.desk with
    prompts := s.desk.prompts ++ [newPrompt s q n], nextNumber := n % 9999 + 1 } }

theorem postNow_eq (q : OwedPrompt) :
    s.postNow q = ((enlisted s q (s.freeNumberFrom 33 s.desk.nextNumber)).recordPrompt q.owner q.kind
      (s.freeNumberFrom 33 s.desk.nextNumber)).settleBoth := rfl

theorem enlisted_asked {W : Nat → Owner → Prop} (q : OwedPrompt) (n : Nat) :
    Asked W s (enlisted s q n) := by
  refine withDesk_asked s _ fun m x hx _ => ?_
  obtain ⟨p, hp, rfl⟩ := Option.map_eq_some_iff.mp hx
  have hp' : s.desk.prompts.find? (fun p => p.number = m) = some p := hp
  simp [prompted, State.prompt?, List.find?_append, hp']

/-- Posting a prompt at once leaves the open prompts. -/
theorem postNow_asked {W : Nat → Owner → Prop} (q : OwedPrompt) : Asked W s (s.postNow q) := by
  rw [postNow_eq]
  exact (enlisted_asked s q _).trans ((recordPrompt_asked _ _ _ _).trans (settleBoth_settled _).asked)

theorem recordPrompt_desk (o : Owner) (k : PromptKind) (n : Nat) :
    (s.recordPrompt o k n).desk = s.desk := by
  unfold State.recordPrompt
  (repeat' split) <;> simp

/-- With a free entry in the table a prompt that is posted is open under a number of its own. -/
theorem postNow_prompted (q : OwedPrompt) (h : s.desk.prompts.length < 32) :
    ∃ m, prompted (s.postNow q) m = some (q.kind, q.owner) := by
  refine ⟨s.freeNumberFrom 33 s.desk.nextNumber, ?_⟩
  have free : s.desk.prompts.find? (fun p => p.number = s.freeNumberFrom 33 s.desk.nextNumber) = none :=
    freeNumber_free s h
  rw [postNow_eq, (settleBoth_settled _).prompted]
  simp [prompted, State.prompt?, recordPrompt_desk, enlisted, newPrompt, List.find?_append, free]

theorem withOwed_asked {W : Nat → Owner → Prop} (owed : List OwedPrompt) :
    Asked W s { s with desk := { s.desk with owed := owed } } := withDesk_asked s _ fun _ _ h _ => h

theorem postOwedWith_asked {W : Nat → Owner → Prop} (fuel : Nat) : Asked W s (s.postOwedWith fuel) := by
  induction fuel generalizing s with
  | zero => exact .refl s
  | succ fuel ih =>
    unfold State.postOwedWith
    split
    · split
      · exact ((withOwed_asked s _).trans (postNow_asked _ _)).trans (ih _)
      · exact .refl s
    · exact .refl s

/-- With nothing owed nothing is posted. -/
theorem postOwed_none (h : s.desk.owed = []) : s.postOwed = s := by
  unfold State.postOwed State.postOwedWith
  simp [h, firstOwed]

/-! ### Closing and withdrawing (R125, R127) -/

/-- The state without the prompt of a number: it leaves every list, and its entry is free. -/
def delisted (s : State) (n : Nat) : State :=
  { s with desk := { s.desk with
    prompts := s.desk.prompts.filter fun p => p.number ≠ n
    consoles := s.desk.consoles.map fun k =>
      { area := k.area.filter fun m => m ≠ n, deferred := k.deferred.filter fun m => m ≠ n } } }

theorem closePrompt_eq (n : Nat) (why : RemoveReason) :
    s.closePrompt n why =
      (delisted (allConsoles.foldl (State.sendRemove n why) s) n).postOwed.settleBoth := rfl

theorem delisted_asked (n : Nat) : Asked (fun m _ => m = n) s (delisted s n) := by
  refine withDesk_asked s _ fun m x hx hm => ?_
  have keep : (s.desk.prompts.filter fun p => p.number ≠ n).find? (fun p => p.number = m) =
      s.desk.prompts.find? fun p => p.number = m := by
    rw [List.find?_filter]
    congr 1
    funext p
    by_cases e : p.number = m
    · simp [e, show m ≠ n from hm]
    · simp [e]
  rw [← hx]
  simp only [prompted, State.prompt?, keep]

/-- Closing a prompt leaves those of other numbers open. -/
theorem closePrompt_asked (n : Nat) (why : RemoveReason) :
    Asked (fun m _ => m = n) s (s.closePrompt n why) := by
  rw [closePrompt_eq]
  exact (Asked.foldl (fun t c => (sendRemove_settled t n why c).asked) allConsoles s).trans
    ((delisted_asked _ n).trans ((postOwedWith_asked _ 32).trans (settleBoth_settled _).asked))

/-- A withdrawal leaves the prompts of other owners open. -/
theorem withdraw_asked (o : Owner) (n : Nat) : Asked (fun _ x => x = o) s (s.withdraw o n) := by
  unfold State.withdraw
  split
  · next p hp =>
    split
    · next ho =>
      refine (closePrompt_asked s n .withdrawn).mono fun m x hx hm => ?_
      subst hm
      simp only [prompted, hp, Option.map_some, Option.some.injEq] at hx
      rw [← hx]; exact ho
    · exact .refl s
  · exact .refl s

theorem dropOwed_asked {W : Nat → Owner → Prop} (o : Owner) (k : PromptKind → Bool) :
    Asked W s (s.dropOwed o k) := withOwed_asked s _

/-- The prompts that a job of this number may own. -/
def OfJob (n : Nat) (_ : Nat) (o : Owner) : Prop := ∃ r, o = .job r ∧ r.number = n

theorem clearPrompt_asked {W : Nat → Owner → Prop} (n : Nat) :
    Asked W s (s.updateJob n fun j => { j with prompt := none }) := updateJob_asked s n _ fun _ => rfl

theorem withdrawJobPrompt_asked (n : Nat) (k : PromptKind → Bool) :
    Asked (OfJob n) s (s.withdrawJobPrompt n k) := by
  unfold State.withdrawJobPrompt
  split
  · next j hj =>
    dsimp only
    refine Asked.trans ?_ (dropOwed_asked _ _ _)
    split
    · exact (clearPrompt_asked s n).trans
        ((withdraw_asked _ _ _).mono fun m x _ hx => ⟨j.ref n, hx, rfl⟩)
    · exact .refl s
  · exact .refl s

/-- The prompts that an owner's posting may close: a job's own (R109). -/
def ClosedBy (o : Owner) (_ : Nat) (x : Owner) : Prop := ∃ r q, o = .job r ∧ x = .job q ∧ q.number = r.number

/-- What an owner does before it posts: a job withdraws its open prompt (R109). -/
def readied (s : State) (o : Owner) (k : PromptKind) : State :=
  match o with
  | .job r => if (s.liveJob r).isSome then s.withdrawJobPrompt r.number fun m => m ≠ k else s
  | _ => s

/-- The state with a prompt owed, in the place of one of the same owner and kind (R113). -/
def owing (s : State) (q : OwedPrompt) : State :=
  { s with desk := { s.desk with
    owed := (s.desk.owed.filter fun p => !(p.owner = q.owner && p.kind = q.kind)) ++ [q] } }

theorem post_eq (o : Owner) (k : PromptKind) (params : PromptParams) (b : Bool) :
    s.post o k params b =
      if (readied s o k).desk.prompts.length < 32 then (readied s o k).postNow ⟨o, k, params, b⟩
      else owing (readied s o k) ⟨o, k, params, b⟩ := by
  cases o <;> rfl

theorem readied_arm (x : ArmId) (k : PromptKind) : readied s (.arm x) k = s := rfl
theorem readied_drive (d : DriveId) (k : PromptKind) : readied s (.drive d) k = s := rfl

theorem readied_asked (o : Owner) (k : PromptKind) : Asked (ClosedBy o) s (readied s o k) := by
  unfold readied
  split
  · next r =>
    split
    · exact (withdrawJobPrompt_asked s _ _).mono fun m x _ ⟨q, hq, e⟩ => ⟨r, q, rfl, hq, e⟩
    · exact .refl s
  · exact .refl s

theorem post_asked (o : Owner) (k : PromptKind) (params : PromptParams) (b : Bool) :
    Asked (ClosedBy o) s (s.post o k params b) := by
  rw [post_eq]
  refine (readied_asked s o k).trans ?_
  split
  · exact postNow_asked _ _
  · exact withOwed_asked _ _

theorem postForJob_asked (n : Nat) (k : PromptKind) (params : PromptParams) :
    Asked (OfJob n) s (s.postForJob n k params) := by
  unfold State.postForJob
  split
  · exact (post_asked s _ k params false).mono fun m x _ ⟨r, q, hr, hx, e⟩ =>
      ⟨q, hx, by rw [e, ← Owner.job.inj hr]; rfl⟩
  · exact .refl s

end

end Sys2Proof.DriveString
end

section
/-!
SUPPORT. What follows an event, and what it can change: which drives, arms, jobs, bays and prompts stand when
bays are offered, arms try again, runs are granted, jobs are created and the mode changes (R39, R50, R60, R77,
R78, R97, R170, R173, R175).
-/

namespace Sys2Proof.DriveString

open Machine

/-! ### Entry by entry -/

/-- A drive without what the aftermath of an event may change in it. -/
def calmDrive (e : Drive) : Drive :=
  { e with job := none, servicePrompt := none, handDemountPrompt := none, cleaningTimer := .stopped }

/-- A creation may name this drive (R39, R50); `o` holds where owed creations may be made. -/
def Wanting (o : Prop) (e : Drive) : Prop :=
  e.job = none ∧ (e.state = .cleanDue ∨ e.state = .awaitingPull ∧ (o ∨ e.autoDemount = true))

/-- What the aftermath of an event leaves of a drive. -/
structure DriveCalm (o : Prop) (e e' : Drive) : Prop where
  same : calmDrive e' = calmDrive e
  timer : e.state ≠ .cleaning → e'.cleaningTimer = e.cleaningTimer
  job : e'.job = e.job ∨ Wanting o e

namespace DriveCalm

variable {o : Prop} {e e' e'' : Drive}

theorem refl (e : Drive) : DriveCalm o e e := ⟨rfl, fun _ => rfl, .inl rfl⟩

theorem state (h : DriveCalm o e e') : e'.state = e.state := (congrArg Drive.state h.same :)
theorem autoDemount (h : DriveCalm o e e') : e'.autoDemount = e.autoDemount :=
  (congrArg Drive.autoDemount h.same :)

theorem trans (h : DriveCalm o e e') (k : DriveCalm o e' e'') : DriveCalm o e e'' where
  same := k.same.trans h.same
  timer n := (k.timer (by rwa [h.state])).trans (h.timer n)
  job := by
    rcases h.job with hj | hw
    · rcases k.job with kj | ⟨kn, kw⟩
      · exact .inl (kj.trans hj)
      · exact .inr ⟨hj ▸ kn, by rwa [h.state, h.autoDemount] at kw⟩
    · exact .inr hw

end DriveCalm

/-- An arm that nothing but its own completion or an operator moves on: no order is kept for it, and it is
neither IDLE, MOVING nor HOMING. -/
def Resting (a : Arm) : Prop :=
  a.nextOrder = none ∧ a.state ≠ .idle ∧ a.state ≠ .moving ∧ a.state ≠ .homing

/-- The arm is IDLE with an EMPTY hand. -/
def idleArm (a : Arm) : Bool := a.state = .idle && a.hand.isEmpty

/-- What the aftermath of an event leaves of an arm. -/
structure ArmCalm (a a' : Arm) : Prop where
  rest : Resting a → unaskedArm a' = unaskedArm a
  idle : idleArm a = false → idleArm a' = false

namespace ArmCalm

variable {a a' a'' : Arm}

theorem of_unasked (h : unaskedArm a' = unaskedArm a) : ArmCalm a a' where
  rest _ := h
  idle k := by
    have hs : a'.state = a.state := (congrArg Arm.state h :)
    have hh : a'.hand = a.hand := (congrArg Arm.hand h :)
    rwa [idleArm, hs, hh]

theorem refl (a : Arm) : ArmCalm a a := of_unasked rfl

theorem of_busy (h : ¬Resting a) (hs : a'.state = .idle → a.state = .idle) (hh : a'.hand = a.hand) :
    ArmCalm a a' where
  rest r := absurd r h
  idle k := by
    rw [idleArm, hh]
    rw [idleArm] at k
    by_cases e : a'.state = .idle <;> simp_all

theorem resting (h : ArmCalm a a') (r : Resting a) : Resting a' := by
  have := h.rest r
  have hn : a'.nextOrder = a.nextOrder := (congrArg Arm.nextOrder this :)
  have hs : a'.state = a.state := (congrArg Arm.state this :)
  unfold Resting
  rwa [hn, hs]

theorem trans (h : ArmCalm a a') (k : ArmCalm a' a'') : ArmCalm a a'' where
  rest r := (k.rest (h.resting r)).trans (h.rest r)
  idle i := k.idle (h.idle i)

end ArmCalm

/-- What the aftermath of an event leaves of a bay: it may be reserved when it is free. -/
def BayCalm (b b' : BayState) : Prop := b' = b ∨ b = .free ∧ ∃ r, b' = .reserved r

theorem BayCalm.refl (b : BayState) : BayCalm b b := .inl rfl

theorem BayCalm.trans {b b' b'' : BayState} (h : BayCalm b b') (k : BayCalm b' b'') : BayCalm b b'' := by
  rcases h with rfl | ⟨rfl, r, rfl⟩
  · exact k
  · rcases k with rfl | ⟨e, -⟩
    · exact .inr ⟨rfl, r, rfl⟩
    · simp at e

/-- A bay that is free afterwards was free before. -/
theorem BayCalm.free {b b' : BayState} (h : BayCalm b b') (k : b' = .free) : b = .free := by
  rcases h with rfl | ⟨rfl, -⟩
  · exact k
  · rfl

/-- A job state in which the aftermath of an event leaves the job as it is; `g` holds where runs may be
granted. -/
def Steady (g : Prop) : JobState → Prop
  | .held _ => False
  | .waiting => ¬g
  | _ => True

/-- A job that waits for its run, or runs, with its volume known. -/
def Going (j : Job) : Prop := (j.state = .waiting ∨ j.state = .assigned) ∧ j.volume ≠ none

/-- What the aftermath of an event leaves of a job. -/
structure JobCalm (g : Prop) (j j' : Job) : Prop where
  returning : j'.returning = j.returning
  steady : Steady g j.state → unaskedJob j' = unaskedJob j
  going : Going j → Going j'

namespace JobCalm

variable {g : Prop} {j j' j'' : Job}

theorem of_unasked (h : unaskedJob j' = unaskedJob j) : JobCalm g j j' where
  returning := (congrArg Job.returning h :)
  steady _ := h
  going k := by
    have hs : j'.state = j.state := (congrArg Job.state h :)
    have hv : j'.volume = j.volume := (congrArg Job.volume h :)
    rwa [Going, hs, hv]

theorem refl (j : Job) : JobCalm g j j := of_unasked rfl

theorem trans (h : JobCalm g j j') (k : JobCalm g j' j'') : JobCalm g j j'' where
  returning := k.returning.trans h.returning
  steady e := by
    have hs := h.steady e
    have : j'.state = j.state := (congrArg Job.state hs :)
    exact (k.steady (by rwa [this])).trans hs
  going e := k.going (h.going e)

theorem of_held {r : HoldReason} (h : j.state = .held r) (hr : j'.returning = j.returning) :
    JobCalm g j j' where
  returning := hr
  steady k := by rw [h] at k; exact k.elim
  going k := by
    obtain ⟨k | k, -⟩ := k <;> rw [h] at k <;> simp at k

end JobCalm

/-! ### The whole state -/

/-- The parts of a state that holds, creations and what follows an event leave as they are. -/
def bare (s : State) : Still := { s.still with accounting := State.reset.accounting }

/-- A prompt's owner is no job, or a job that stands as it is and is not named by `X`. -/
def Rests (X : Nat → Prop) (g : Prop) (s : State) (o : Owner) : Prop :=
  ∀ r, o = .job r → ¬X r.number ∧ ∃ j, s.job? r.number = some j ∧ Steady g j.state

/-- What the aftermath of an event leaves as it was. `X` names the jobs of which nothing is said; `g` holds
where runs may be granted, and `o` where owed creations may be made. -/
structure Calm (X : Nat → Prop) (g o : Prop) (s t : State) : Prop where
  bare : bare t = bare s
  sent : s.sent <+: t.sent
  drive : ∀ d, DriveCalm o (s.drive d) (t.drive d)
  ring : ∀ b, BayCalm (s.station.ring.get b) (t.station.ring.get b)
  hatch : ∀ b, BayCalm (s.station.hatch.get b) (t.station.hatch.get b)
  arm : ∀ x, ArmCalm (s.arm x) (t.arm x)
  job : ∀ n j, ¬X n → s.job? n = some j → ∃ j', t.job? n = some j' ∧ JobCalm g j j'
  prompt : ∀ m x, prompted s m = some x → Rests X g s x.2 → prompted t m = some x

/-- The jobs named by none. -/
def NoJob (_ : Nat) : Prop := False

/-- Every job. -/
def AnyJob (_ : Nat) : Prop := True

namespace Calm

variable {X Y : Nat → Prop} {g o : Prop} {s t u : State}

theorem refl (s : State) : Calm X g o s s :=
  ⟨rfl, List.prefix_rfl, fun _ => .refl _, fun _ => .refl _, fun _ => .refl _, fun _ => .refl _,
    fun _ j _ h => ⟨j, h, .refl j⟩, fun _ _ h _ => h⟩

theorem trans (h : Calm X g o s t) (k : Calm X g o t u) : Calm X g o s u where
  bare := k.bare.trans h.bare
  sent := h.sent.trans k.sent
  drive d := (h.drive d).trans (k.drive d)
  ring b := (h.ring b).trans (k.ring b)
  hatch b := (h.hatch b).trans (k.hatch b)
  arm x := (h.arm x).trans (k.arm x)
  job n j hn hj := by
    obtain ⟨j', hj', c⟩ := h.job n j hn hj
    obtain ⟨j'', hj'', c'⟩ := k.job n j' hn hj'
    exact ⟨j'', hj'', c.trans c'⟩
  prompt m x hx hr := by
    refine k.prompt m x (h.prompt m x hx hr) fun r hr' => ?_
    obtain ⟨hn, j, hj, hs⟩ := hr r hr'
    obtain ⟨j', hj', c⟩ := h.job r.number j hn hj
    have e : j'.state = j.state := (congrArg Job.state (c.steady hs) :)
    exact ⟨hn, j', hj', by rwa [e]⟩

/-- A job of which nothing was said may be named after all when it was on no list before, or stood in a state
the aftermath may change. -/
theorem exempt (h : Calm X g o s t)
    (hX : ∀ n j, X n → ¬Y n → s.job? n = some j →
      (∃ j', t.job? n = some j' ∧ JobCalm g j j') ∧ ¬Steady g j.state) : Calm Y g o s t where
  bare := h.bare
  sent := h.sent
  drive := h.drive
  ring := h.ring
  hatch := h.hatch
  arm := h.arm
  job n j hn hj := by
    by_cases hx : X n
    · exact (hX n j hx hn hj).1
    · exact h.job n j hx hj
  prompt m x hx hr := by
    refine h.prompt m x hx fun r hr' => ?_
    obtain ⟨hn, j, hj, hs⟩ := hr r hr'
    exact ⟨fun k => (hX r.number j k hn hj).2 hs, j, hj, hs⟩

/-- A fold of calm steps over the entries of a list. -/
theorem foldl {ι : Type} {f : State → ι → State} {l : List ι} (h : ∀ s, ∀ i ∈ l, Calm X g o s (f s i))
    (s : State) : Calm X g o s (l.foldl f s) := by
  induction l generalizing s with
  | nil => exact refl s
  | cons i rest ih =>
    exact (h s i (by simp)).trans (ih (fun s k hk => h s k (by simp [hk])) _)

/-- The first success of calm steps, or what stands for none. -/
theorem findSome {ι : Type} {f : ι → Option State} {l : List ι} {u : State}
    (h : ∀ i ∈ l, ∀ t, f i = some t → Calm X g o s t) (hu : Calm X g o s u) :
    Calm X g o s ((l.findSome? f).getD u) := by
  cases e : l.findSome? f with
  | none => exact hu
  | some t =>
    obtain ⟨i, hi, hf⟩ := List.exists_of_findSome?_eq_some e
    exact h i hi t hf

/-- Either branch. -/
theorem ite {p : Prop} [Decidable p] (h : Calm X g o s t) (k : Calm X g o s u) :
    Calm X g o s (if p then t else u) := by split <;> assumption

theorem noIdle (h : Calm X g o s t) (hs : noIdleArm s) : noIdleArm t :=
  ⟨(h.arm .a).idle hs.1, (h.arm .b).idle hs.2⟩

theorem map (h : Calm X g o s t) : t.map = s.map := congrArg Still.map h.bare

end Calm

/-- Work on prompts is calm when the prompts it may close are of jobs that do not stand as they are. -/
theorem Asked.calm {W : Nat → Owner → Prop} {X : Nat → Prop} {g o : Prop} {s t : State} (h : Asked W s t)
    (hW : ∀ m x, prompted s m = some x → W m x.2 → ¬Rests X g s x.2) : Calm X g o s t where
  bare := by simp only [DriveString.bare, h.still]
  sent := h.sent
  drive d := by
    have e := h.drive d
    refine ⟨(congrArg calmDrive e :), fun _ => ?_, .inl (congrArg Drive.job e :)⟩
    exact (congrArg Drive.cleaningTimer e :)
  ring b := .inl (by rw [h.station])
  hatch b := .inl (by rw [h.station])
  arm x := .of_unasked (h.arm x)
  job n j _ hj := by
    obtain ⟨p, hp⟩ := h.job_some hj
    exact ⟨_, hp, .of_unasked rfl⟩
  prompt m x hx hr := h.prompt m x hx fun k => hW m x hx k hr

section
variable {X : Nat → Prop} {g o : Prop} (s : State)

/-! ### Small updates -/

theorem settled_calm {t : State} (h : Settled s t) : Calm X g o s t :=
  (h.asked (W := fun _ _ => False)).calm fun _ _ _ k => k.elim

theorem emit_calm (f : Sent) : Calm X g o s (s.emit f) := settled_calm s (emit_settled s f)

theorem updateDrive_calm (d : DriveId) (f : Drive → Drive) (h : DriveCalm o (s.drive d) (f (s.drive d))) :
    Calm X g o s (s.updateDrive d f) where
  bare := rfl
  sent := List.prefix_rfl
  drive e := by
    by_cases k : d = e
    · subst k; rw [updateDrive_drive]; exact h
    · rw [updateDrive_drive_ne _ _ _ _ k]; exact .refl _
  ring _ := .refl _
  hatch _ := .refl _
  arm _ := .refl _
  job _ j _ hj := ⟨j, hj, .refl j⟩
  prompt _ _ hx _ := hx

theorem updateJob_calm (n : Nat) (f : Job → Job)
    (h : ∀ j, ¬X n → s.job? n = some j → JobCalm g j (f j)) : Calm X g o s (s.updateJob n f) where
  bare := rfl
  sent := List.prefix_rfl
  drive _ := .refl _
  ring _ := .refl _
  hatch _ := .refl _
  arm _ := .refl _
  job m j hm hj := by
    by_cases k : n = m
    · subst k; exact ⟨f j, by rw [updateJob_job, hj]; rfl, h j hm hj⟩
    · exact ⟨j, by rw [updateJob_job_ne _ _ _ _ k, hj], .refl j⟩
  prompt _ _ hx _ := hx

theorem addJob_calm (n : Nat) (j : Job) (h : X n) : Calm X g o s (s.addJob n j) where
  bare := rfl
  sent := List.prefix_rfl
  drive _ := .refl _
  ring _ := .refl _
  hatch _ := .refl _
  arm _ := .refl _
  job m k hm hk := by
    have e : n ≠ m := fun e => hm (e ▸ h)
    exact ⟨k, by rw [addJob_job_ne _ _ _ _ e, hk], .refl k⟩
  prompt _ _ hx _ := hx

theorem setOwed_calm (d : DriveId) (k : Option OwedKind) : Calm X g o s (s.setOwed d k) where
  bare := rfl
  sent := List.prefix_rfl
  drive _ := .refl _
  ring _ := .refl _
  hatch _ := .refl _
  arm _ := .refl _
  job _ j _ hj := ⟨j, hj, .refl j⟩
  prompt _ _ hx _ := hx

theorem updateArm_calm (x : ArmId) (f : Arm → Arm) (h : ArmCalm (s.arm x) (f (s.arm x))) :
    Calm X g o s (s.updateArm x f) where
  bare := by cases x <;> rfl
  sent := by cases x <;> exact List.prefix_rfl
  drive _ := by cases x <;> exact .refl _
  ring _ := by cases x <;> exact .refl _
  hatch _ := by cases x <;> exact .refl _
  arm y := by cases x <;> cases y <;> first | exact h | exact .refl _
  job _ j _ hj := ⟨j, by cases x <;> exact hj, .refl j⟩
  prompt _ _ hx _ := by cases x <;> exact hx

theorem withTag_calm (n : Nat) :
    Calm X g o s { s with arms := { s.arms with tagCounter := n } } where
  bare := rfl
  sent := List.prefix_rfl
  drive _ := .refl _
  ring _ := .refl _
  hatch _ := .refl _
  arm x := by cases x <;> exact .refl _
  job _ j _ hj := ⟨j, hj, .refl j⟩
  prompt _ _ hx _ := hx

theorem setRing_calm (b : RingBay) (t : BayState) (h : BayCalm (s.station.ring.get b) t) :
    Calm X g o s (s.setRing b t) where
  bare := rfl
  sent := List.prefix_rfl
  drive _ := .refl _
  ring c := by
    by_cases k : b = c
    · subst k; rw [State.setRing, Bank.get_set_self]; exact h
    · rw [State.setRing, Bank.get_set_ne _ _ _ _ k]; exact .refl _
  hatch _ := .refl _
  arm _ := .refl _
  job _ j _ hj := ⟨j, hj, .refl j⟩
  prompt _ _ hx _ := hx

theorem setHatch_calm (b : HatchBay) (t : BayState) (h : BayCalm (s.station.hatch.get b) t) :
    Calm X g o s (s.setHatch b t) where
  bare := rfl
  sent := List.prefix_rfl
  drive _ := .refl _
  ring _ := .refl _
  hatch c := by
    by_cases k : b = c
    · subst k; rw [State.setHatch, Bank.get_set_self]; exact h
    · rw [State.setHatch, Bank.get_set_ne _ _ _ _ k]; exact .refl _
  arm _ := .refl _
  job _ j _ hj := ⟨j, hj, .refl j⟩
  prompt _ _ hx _ := hx

theorem withMode_calm (m : Mode) (q : Bool) :
    Calm X g o s { s with control := { s.control with mode := m, quiesceForced := q } } where
  bare := rfl
  sent := List.prefix_rfl
  drive _ := .refl _
  ring _ := .refl _
  hatch _ := .refl _
  arm x := by cases x <;> exact .refl _
  job _ j _ hj := ⟨j, hj, .refl j⟩
  prompt _ _ hx _ := hx

theorem updateAccount_calm (a : AccountId) (f : Account → Account) : Calm X g o s (s.updateAccount a f) where
  bare := rfl
  sent := List.prefix_rfl
  drive _ := .refl _
  ring _ := .refl _
  hatch _ := .refl _
  arm x := by cases x <;> exact .refl _
  job _ j _ hj := ⟨j, hj, .refl j⟩
  prompt _ _ hx _ := hx

theorem updateNotice_calm (c : NoticeClass) (f : NoticeState → NoticeState) :
    Calm X g o s (s.updateNotice c f) where
  bare := rfl
  sent := List.prefix_rfl
  drive _ := .refl _
  ring _ := .refl _
  hatch _ := .refl _
  arm x := by cases x <;> exact .refl _
  job _ j _ hj := ⟨j, hj, .refl j⟩
  prompt _ _ hx _ := hx

theorem sendNotice_calm (c : NoticeClass) (d : NoticeData) : Calm X g o s (s.sendNotice c d) :=
  (emit_calm s _).trans (updateNotice_calm _ _ _)

theorem raiseEvent_calm (c : NoticeClass) (d : NoticeData) : Calm X g o s (s.raiseEvent c d) := by
  unfold State.raiseEvent
  split
  · exact sendNotice_calm s c d
  · exact .refl s

theorem setLevel_calm (c : NoticeClass) (b : Bool) (d : NoticeData) : Calm X g o s (s.setLevel c b d) := by
  unfold State.setLevel
  dsimp only
  split
  · exact .refl s
  · refine (updateNotice_calm s c fun n => { n with level := b }).trans ?_
    exact .ite (sendNotice_calm _ _ _) (.refl _)

/-! ### Orders (R70 to R79) -/

theorem sendOrder_calm (x : ArmId) (ord : Order) (h : ¬Resting (s.arm x)) :
    Calm X g o s (s.sendOrder x ord) :=
  ((updateArm_calm s x _ (.of_busy h id rfl)).trans (withTag_calm _ _)).trans (emit_calm _ _)

theorem keepNext_calm (x : ArmId) (ord : Order) (h : ¬Resting (s.arm x)) :
    Calm X g o s (s.keepNext x ord) := updateArm_calm s x _ (.of_busy h id rfl)

theorem dispatch_calm (x : ArmId) (ord : Order) (h : ¬Resting (s.arm x)) :
    Calm X g o s (s.dispatch x ord) := by
  unfold State.dispatch
  split
  · exact sendOrder_calm s x ord h
  · exact keepNext_calm s x ord h

theorem not_resting_of_moving {a : Arm} (h : a.state = .moving) : ¬Resting a := fun r => r.2.2.1 h
theorem not_resting_of_homing {a : Arm} (h : a.state = .homing) : ¬Resting a := fun r => r.2.2.2 h
theorem not_resting_of_idle {a : Arm} (h : a.state = .idle) : ¬Resting a := fun r => r.2.1 h

theorem not_resting_of_isIdle {x : ArmId} (h : s.isIdle x = true) : ¬Resting (s.arm x) := by
  simp only [State.isIdle, Bool.and_eq_true, decide_eq_true_eq] at h
  exact not_resting_of_idle h.1

theorem giveYield_calm (x : ArmId) (p : Nat) (h : ¬Resting (s.arm x)) : Calm X g o s (s.giveYield x p) := by
  unfold State.giveYield
  refine (updateArm_calm s x _ (.of_busy h (fun e => ?_) rfl)).trans
    (dispatch_calm _ x _ (not_resting_of_moving ?_))
  · simp at e
  · rw [updateArm_arm]

theorem formInFlight_calm (x : ArmId) (f : InFlight) (j : Job) : Calm X g o s (s.formInFlight x f j) := by
  unfold State.formInFlight
  dsimp only
  split
  · next h =>
    simp only [Bool.and_eq_true, decide_eq_true_eq] at h
    exact updateArm_calm s x _ (.of_busy (not_resting_of_moving h.1) id rfl)
  · exact .refl s

/-- The forming of a claim, when the arm goes on calmly and its waiting leaves the other arm. -/
theorem formClaim_calm (x : ArmId) (need : Span) (granted waits : State → State)
    (h : ¬Resting (s.arm x)) (hg : ∀ t, (t.arm x).state = (s.arm x).state →
      (t.arm x).nextOrder = (s.arm x).nextOrder → Calm X g o t (granted t))
    (hw : Calm X g o s (waits s)) (hy : (waits s).arm (otherArm x) = s.arm (otherArm x)) :
    Calm X g o s (s.formClaim x need granted waits) := by
  unfold State.formClaim
  split
  · exact (updateArm_calm s x _ (.of_busy h id rfl)).trans (hg _ (by rw [updateArm_arm]) (by rw [updateArm_arm]))
  · split
    · split
      · next hi => exact hw.trans (giveYield_calm _ _ _ (by rw [hy]; exact not_resting_of_isIdle s hi))
      · exact hw
    · exact hw

theorem keepNext_arm_other (x : ArmId) (ord : Order) :
    (s.keepNext x ord).arm (otherArm x) = s.arm (otherArm x) := setArm_arm_other _ _ _

theorem tryGo_calm (x : ArmId) : Calm X g o s (s.tryGo x) := by
  unfold State.tryGo
  split
  · exact .refl s
  · next n j _ =>
    split
    · exact .refl s
    · next ord _ =>
      dsimp only
      split
      · exact .refl s
      · split
        · exact formInFlight_calm s x _ j
        · split
          · next h => exact keepNext_calm s x ord (not_resting_of_homing h)
          · split
            · exact .refl s
            · next hm =>
              have busy := not_resting_of_moving (not_not.mp hm)
              refine formClaim_calm s x _ _ _ busy (fun t hs _ => ?_) (keepNext_calm s x ord busy)
                (keepNext_arm_other s x ord)
              exact dispatch_calm t x ord (not_resting_of_moving (hs.trans (not_not.mp hm)))

theorem retryArm_calm (x : ArmId) : Calm X g o s (s.retryArm x) := by
  unfold State.retryArm
  dsimp only
  split
  · exact tryGo_calm s x
  · exact .refl s

theorem resumeArm_calm (x : ArmId) : Calm X g o s (s.resumeArm x) := by
  have busy {ord} (h : (s.arm x).nextOrder = some ord) : ¬Resting (s.arm x) := fun r => by
    rw [r.1] at h; simp at h
  unfold State.resumeArm
  dsimp only
  split
  · next h =>
    split
    · exact .refl s
    · exact dispatch_calm s x _ (busy h)
  · next h => exact dispatch_calm s x _ (busy h)
  · exact retryArm_calm s x
  · exact .refl s

theorem resumeArms_calm : Calm X g o s s.resumeArms :=
  (resumeArm_calm s .a).trans (resumeArm_calm _ .b)

end

end Sys2Proof.DriveString
end

section
/-!
SUPPORT. Creations, bays, grants and mode changes are calm, and so is all that follows an event.
-/

namespace Sys2Proof.DriveString

open Machine

section
variable {X : Nat → Prop} {g o : Prop} (s : State)

/-! ### A job of which nothing is said -/

theorem updateJob_calm_of (n : Nat) (f : Job → Job) (h : X n) : Calm X g o s (s.updateJob n f) :=
  updateJob_calm s n f fun _ k _ => absurd h k

theorem setJobState_calm_of (n : Nat) (t : JobState) (h : X n) : Calm X g o s (s.setJobState n t) :=
  updateJob_calm_of s n _ h

/-- The prompts of a job that `X` names, or that does not stand as it is, may close. -/
theorem ofJob_not_rests {n m : Nat} {x : Owner} (h : ∀ j, ¬X n → s.job? n = some j → ¬Steady g j.state)
    (k : OfJob n m x) : ¬Rests X g s x := by
  obtain ⟨r, rfl, rfl⟩ := k
  intro hr
  obtain ⟨hn, j, hj, hs⟩ := hr r rfl
  exact h j hn hj hs

theorem withdrawJobPrompt_calm (n : Nat) (k : PromptKind → Bool)
    (h : ∀ j, ¬X n → s.job? n = some j → ¬Steady g j.state) : Calm X g o s (s.withdrawJobPrompt n k) :=
  (withdrawJobPrompt_asked s n k).calm fun _ _ _ => ofJob_not_rests s h

theorem postForJob_calm (n : Nat) (k : PromptKind) (p : PromptParams)
    (h : ∀ j, ¬X n → s.job? n = some j → ¬Steady g j.state) : Calm X g o s (s.postForJob n k p) :=
  (postForJob_asked s n k p).calm fun _ _ _ => ofJob_not_rests s h

/-! ### Creations (R50) -/

theorem nameDrive_calm (d : DriveId) (n : Nat) (h : Wanting o (s.drive d)) :
    Calm X g o s (s.nameDrive d n) :=
  updateDrive_calm s d _ ⟨rfl, fun _ => rfl, .inr h⟩

theorem afterUnloaded_calm (n : Nat) (d : DriveId) (h : X n) : Calm X g o s (s.afterUnloaded n d) := by
  unfold State.afterUnloaded
  dsimp only
  split
  · exact (setJobState_calm_of s n _ h).trans (postForJob_calm _ n _ _ fun _ k _ => absurd h k)
  · exact (updateJob_calm_of s n _ h).trans (setJobState_calm_of _ n _ h)

/-- A job made in a free entry is one of which nothing is said. -/
theorem calm_of_fresh {n : Nat} {t : State} (hn : s.job? n = none)
    (h : Calm (fun m => X m ∨ m = n) g o s t) : Calm X g o s t :=
  h.exempt fun m j hm hx hj => by
    obtain rfl := hm.resolve_left hx
    rw [hn] at hj; simp at hj

theorem create_calm (d : DriveId) (k : OwedKind) (h : Wanting o (s.drive d)) :
    Calm X g o s (s.create d k) := by
  unfold State.create
  split
  · exact setOwed_calm s d _
  · next n hn =>
    have added (j : Job) : Calm (fun m => X m ∨ m = n) g o s ((s.addJob n j).nameDrive d n) :=
      (addJob_calm s n j (.inr rfl)).trans (nameDrive_calm _ d n h)
    refine calm_of_fresh s (freeJob_spec s n hn).1 ?_
    split
    · exact (added _).trans (afterUnloaded_calm _ n d (.inr rfl))
    · exact (added _).trans (setJobState_calm_of _ n _ (.inr rfl))
    · exact (added _).trans (setJobState_calm_of _ n _ (.inr rfl))

/-! ### Bays (R82, R84, R97) -/

/-- The job is held, unless nothing is said of it. -/
abbrev HeldOr (X : Nat → Prop) (s : State) (n : Nat) : Prop :=
  ∀ j, ¬X n → s.job? n = some j → ∃ r, j.state = .held r

/-- A held job changed and then given another state, its returning flag as it was. -/
theorem heldJob_calm (n : Nat) (f : Job → Job) (t : JobState) (h : HeldOr X s n)
    (hs : ∀ j, (f j).state = j.state) (hr : ∀ j, (f j).returning = j.returning) :
    Calm X g o s ((s.updateJob n f).setJobState n t) := by
  refine (updateJob_calm s n f fun j hn hj => ?_).trans (updateJob_calm _ n _ fun j hn hj => ?_)
  · obtain ⟨r, hj⟩ := h j hn hj
    exact .of_held hj (hr j)
  · rw [updateJob_job, Option.map_eq_some_iff] at hj
    obtain ⟨i, hi, rfl⟩ := hj
    obtain ⟨r, hi⟩ := h i hn hi
    exact .of_held ((hs i).trans hi) rfl

theorem takeHatch_calm (n : Nat) (x : ArmId) (b : HatchBay) (t : State) (h : HeldOr X s n)
    (ht : State.takeHatch n x s b = some t) : Calm X g o s t := by
  unfold State.takeHatch at ht
  split at ht
  · simp at ht
  · next j hj =>
    split at ht
    · next hb =>
      obtain rfl := Option.some.inj ht
      simp only [Bool.and_eq_true, decide_eq_true_eq] at hb
      refine .trans ?_ (tryGo_calm _ x)
      refine .trans ?_ (heldJob_calm _ n _ .assigned (by exact h) (fun _ => rfl) fun _ => rfl)
      exact setHatch_calm s b _ (.inr ⟨hb.1.1, _, rfl⟩)
    · simp at ht

theorem takeRing_calm (n : Nat) (x : ArmId) (b : RingBay) (t : State) (h : HeldOr X s n)
    (ht : State.takeRing n x s b = some t) : Calm X g o s t := by
  unfold State.takeRing at ht
  split at ht
  · simp at ht
  · next j hj =>
    split at ht
    · next hb =>
      obtain rfl := Option.some.inj ht
      simp only [Bool.and_eq_true, decide_eq_true_eq] at hb
      refine .trans ?_ (tryGo_calm _ x)
      refine .trans ?_ (heldJob_calm _ n _ .assigned (by exact h) (fun _ => rfl) fun _ => rfl)
      exact setRing_calm s b _ (.inr ⟨hb.1.1, _, rfl⟩)
    · simp at ht

theorem claimHome_calm (n : Nat) (x : ArmId) : Calm X g o s (s.claimHome n x) := by
  unfold State.claimHome
  split
  · next h =>
    exact formClaim_calm s x _ id id (not_resting_of_moving h) (fun t _ _ => .refl t) (.refl s) rfl
  · exact .refl s

theorem retryHeld_calm (n : Nat) (x : ArmId) : Calm X g o s (s.retryHeld n x) := by
  unfold State.retryHeld
  split
  · next j hj =>
    have held {r} (h : j.state = .held r) : HeldOr X s n := fun k _ hk => by
      rw [hj] at hk; exact ⟨r, Option.some.inj hk ▸ h⟩
    split
    · next h =>
      exact .findSome (fun b _ t ht => takeHatch_calm s n x b t (held h) ht) (claimHome_calm s n x)
    · split
      · next h =>
        exact .findSome (fun b _ t ht => takeRing_calm s n x b t (held h) ht) (claimHome_calm s n x)
      · exact .refl s
  · exact .refl s

theorem retryOne_calm (x : ArmId) : Calm X g o s (s.retryOne x) := by
  unfold State.retryOne
  split
  · exact .ite (retryArm_calm s x) (retryHeld_calm s _ x)
  · exact .refl s

theorem retryAfter_calm (before : State) (x : ArmId) : Calm X g o s (State.retryAfter before x s) := by
  unfold State.retryAfter
  exact .ite (retryOne_calm s x) (.refl s)

theorem enterAt_calm (n : Nat) (b : HatchBay) (h : X n) (hb : s.station.hatch.get b = .free) :
    Calm X g o s (s.enterAt n b) := by
  unfold State.enterAt
  split
  · exact .refl s
  · exact (((setHatch_calm s b _ (.inr ⟨hb, _, rfl⟩)).trans (updateJob_calm_of _ n _ h)).trans
      (setJobState_calm_of _ n _ h)).trans (postForJob_calm _ n _ _ fun _ k _ => absurd h k)

theorem offerRing_calm (b : RingBay) : Calm AnyJob g o s (s.offerRing b) := by
  unfold State.offerRing
  refine .findSome (fun n _ t ht => ?_) (.refl s)
  split at ht
  · exact takeRing_calm s n _ b t (fun _ k => absurd trivial k) ht
  · simp at ht

theorem offerHatch_calm (b : HatchBay) : Calm AnyJob g o s (s.offerHatch b) := by
  unfold State.offerHatch
  dsimp only
  split
  · next t ht =>
    obtain ⟨n, _, ht⟩ := List.exists_of_findSome?_eq_some ht
    split at ht
    · exact takeHatch_calm s n _ b t (fun _ k => absurd trivial k) ht
    · simp at ht
  · split
    · next hb =>
      simp only [Bool.and_eq_true, decide_eq_true_eq] at hb
      split
      · exact enterAt_calm s _ b trivial hb.1
      · exact .refl s
    · exact .refl s

/-- Offers change jobs, and there are none when no bay has become free. -/
theorem offerBays_calm (before : State)
    (h : (∀ n, X n) ∨ s.freedRings before = [] ∧ s.freedHatches before = []) :
    Calm X g o s (State.offerBays before s) := by
  unfold State.offerBays
  rcases h with h | ⟨hr, hh⟩
  · have any : Calm AnyJob g o s (State.offerBays before s) :=
      (Calm.foldl (fun t b _ => offerRing_calm t b) s).trans
        (Calm.foldl (fun t b _ => offerHatch_calm t b) _)
    exact any.exempt fun n _ _ k => absurd (h n) k
  · dsimp only
    rw [hr, hh]
    exact .refl s

/-! ### Runs (R60, R78) -/

/-- The bays that a way of forming a run reserves are free (R96). -/
theorem runOptions_free (j : Job) (r : RunOption) (h : r ∈ s.runOptions j) :
    (∀ b, r.ring = some b → s.station.ring.get b = .free) ∧
      ∀ b, r.hatch = some b → s.station.hatch.get b = .free := by
  have ring (f : RingBay → RunOption) (hf : ∀ b, (f b).ring = some b ∧ (f b).hatch = none)
      (k : r ∈ s.freeRings.map f) : (∀ b, r.ring = some b → s.station.ring.get b = .free) ∧
        ∀ b, r.hatch = some b → s.station.hatch.get b = .free := by
    obtain ⟨b, hb, rfl⟩ := List.mem_map.mp k
    simp only [State.freeRings, List.mem_filter, Bool.and_eq_true, decide_eq_true_eq] at hb
    rw [(hf b).1, (hf b).2]
    exact ⟨fun c hc => Option.some.inj hc ▸ hb.2.1, fun c hc => by simp at hc⟩
  have hatch (f : HatchBay → RunOption) (hf : ∀ b, (f b).hatch = some b ∧ (f b).ring = none)
      (k : r ∈ s.freeHatches.map f) : (∀ b, r.ring = some b → s.station.ring.get b = .free) ∧
        ∀ b, r.hatch = some b → s.station.hatch.get b = .free := by
    obtain ⟨b, hb, rfl⟩ := List.mem_map.mp k
    simp only [State.freeHatches, List.mem_filter, Bool.and_eq_true, decide_eq_true_eq] at hb
    rw [(hf b).1, (hf b).2]
    exact ⟨fun c hc => by simp at hc, fun c hc => Option.some.inj hc ▸ hb.2.1⟩
  have none (legs : List Leg) (k : r ∈ [({ legs := legs } : RunOption)]) :
      (∀ b, r.ring = some b → s.station.ring.get b = .free) ∧
        ∀ b, r.hatch = some b → s.station.hatch.get b = .free := by
    obtain rfl := List.mem_singleton.mp k
    exact ⟨fun c hc => by simp at hc, fun c hc => by simp at hc⟩
  unfold State.runOptions at h
  dsimp only at h
  split at h
  · split at h
    · split at h
      · exact ring _ (fun _ => ⟨rfl, rfl⟩) h
      · exact none _ h
    · exact hatch _ (fun _ => ⟨rfl, rfl⟩) h
    · exact none _ h
  · split at h
    · exact hatch _ (fun _ => ⟨rfl, rfl⟩) h
    · rcases List.mem_append.mp h with h | h
      · split at h
        · exact ring _ (fun _ => ⟨rfl, rfl⟩) h
        · simp at h
      · exact none _ h
    · exact none _ h
  · simp at h
  · split at h
    · exact hatch _ (fun _ => ⟨rfl, rfl⟩) h
    · exact none _ h

/-- The state after a grant is recorded and its bays are reserved. -/
def granted (s : State) (n : Nat) (j : Job) (x : ArmId) (r : RunOption) : State :=
  (s.recordGrant n j x r).reserveBays r (j.ref n)

theorem granted_arms (n : Nat) (j : Job) (x : ArmId) (r : RunOption) :
    (granted s n j x r).arms = s.arms ∧ (granted s n j x r).map = s.map := by
  unfold granted State.reserveBays
  dsimp only
  cases r.ring <;> cases r.hatch <;> exact ⟨rfl, rfl⟩

/-- What a run needs is read from the arms and the map alone. -/
theorem qualifies_congr {t : State} (ha : t.arms = s.arms) (hm : t.map = s.map) (x : ArmId)
    (legs : List Leg) (v : Option Nat) : t.neededSpan x legs v = s.neededSpan x legs v ∧
      (∀ c, t.keepsRule x c = s.keepsRule x c) ∧ t.isIdle (otherArm x) = s.isIdle (otherArm x) ∧
      t.isIdle x = s.isIdle x := by
  cases t; cases s; cases ha; cases hm
  exact ⟨by cases x <;> rfl, fun c => by cases x <;> rfl, by cases x <;> rfl, by cases x <;> rfl⟩

theorem startRun_calm (x : ArmId) (k : JobRef) (ord : Order) (need : Span) (hx : s.isIdle x = true)
    (hy : s.keepsRule x need = false → s.isIdle (otherArm x) = true) :
    Calm X g o s (s.startRun x k ord need) := by
  have busy := not_resting_of_isIdle s hx
  have move (f : Arm → Arm) (hf : ∀ a, (f a).state = .moving ∧ (f a).hand = a.hand) :
      Calm X g o s (s.updateArm x f) :=
    updateArm_calm s x f (.of_busy busy (fun e => by rw [(hf _).1] at e; simp at e) (hf _).2)
  unfold State.startRun
  split
  · refine .trans ?_ (dispatch_calm _ x ord (not_resting_of_moving (by rw [updateArm_arm])))
    exact move _ fun _ => ⟨rfl, rfl⟩
  · next hk =>
    dsimp only
    split
    · refine .trans ?_ (giveYield_calm _ _ _ ?_)
      · exact move _ fun _ => ⟨rfl, rfl⟩
      · rw [State.updateArm, setArm_arm_other]
        exact not_resting_of_isIdle s (hy (by simpa using hk))
    · exact move _ fun _ => ⟨rfl, rfl⟩

/-- The arm chosen for a run is IDLE, and so is the other when the span does not keep the rule. -/
theorem chooseArm_idle {legs : List Leg} {v : Option Nat} {x : ArmId} (h : s.chooseArm legs v = some x) :
    s.isIdle x = true ∧ (s.keepsRule x (s.neededSpan x legs v) = false → s.isIdle (otherArm x) = true) := by
  have q : s.armQualifies legs v x = true := by
    unfold State.chooseArm at h
    split at h
    · simp at h
    · next ha _ => obtain rfl := Option.some.inj h; exact ha
    · next _ hb => obtain rfl := Option.some.inj h; exact hb
    · next ha hb =>
      dsimp only at h
      split at h <;> obtain rfl := Option.some.inj h <;> assumption
  simp only [State.armQualifies, Bool.and_eq_true, Bool.or_eq_true] at q
  exact ⟨q.1, fun k => (q.2.resolve_left (by simp [k])).1⟩

/-- The job considered, as it stands on the list and with the candidate it may choose. -/
structure Considered (g : Prop) (s : State) (n : Nat) (i j : Job) : Prop where
  listed : s.job? n = some i
  waits : i.state = .waiting ∧ j.state = .waiting
  returning : j.returning = i.returning
  volume : i.volume ≠ none → j.volume ≠ none
  grants : g

theorem granted_calm {n : Nat} {i j : Job} {x : ArmId} {r : RunOption} (c : Considered g s n i j)
    (hr : r ∈ s.runOptions j) : Calm X g o s (granted s n j x r) := by
  obtain ⟨ring, hatch⟩ := runOptions_free s j r hr
  have waiting {k k' : Job} (hk : k.state = .waiting) (h : k'.returning = k.returning)
      (hg : Going k → Going k') : JobCalm g k k' :=
    ⟨h, fun e => by rw [hk] at e; exact absurd c.grants e, hg⟩
  have recorded : Calm X g o s (s.recordGrant n j x r) := by
    refine (updateJob_calm s n _ fun k _ hk => ?_).trans (updateJob_calm _ n _ fun k _ hk => ?_)
    · obtain rfl := Option.some.inj (c.listed.symm.trans hk)
      exact waiting c.waits.1 c.returning fun e => ⟨.inl c.waits.2, c.volume e.2⟩
    · rw [updateJob_job, Option.map_eq_some_iff] at hk
      obtain ⟨k, _, rfl⟩ := hk
      exact waiting c.waits.2 rfl fun e => ⟨.inr rfl, e.2⟩
  refine recorded.trans ?_
  unfold granted State.reserveBays
  dsimp only
  have ring' : Calm X g o (s.recordGrant n j x r) (match r.ring with
      | some b => (s.recordGrant n j x r).setRing b (.reserved (j.ref n))
      | none => s.recordGrant n j x r) := by
    split
    · next b hb => exact setRing_calm _ b _ (.inr ⟨ring b hb, _, rfl⟩)
    · exact .refl _
  refine ring'.trans ?_
  cases hb : r.hatch with
  | none => exact .refl _
  | some b =>
    refine setHatch_calm _ b _ (.inr ⟨?_, _, rfl⟩)
    have := hatch b hb
    split <;> exact this

theorem propose_calm {n : Nat} {i j : Job} {r : RunOption} {t : State} (c : Considered g s n i j)
    (hr : r ∈ s.runOptions j) (ht : State.propose n j s r = some t) : Calm X g o s t := by
  unfold State.propose at ht
  dsimp only at ht
  split at ht
  · split at ht
    · next x hx =>
      obtain rfl := Option.some.inj ht
      refine (granted_calm s c hr (x := x)).trans ?_
      obtain ⟨idle, other⟩ := chooseArm_idle s hx
      obtain ⟨ha, hm⟩ := granted_arms s n j x r
      obtain ⟨hn, hk, hy, hi⟩ := qualifies_congr s ha hm x (runOf r.legs) j.volume
      change Calm X g o (granted s n j x r) (match (runOf r.legs).head?.bind Leg.order with
        | none => granted s n j x r
        | some o => (granted s n j x r).startRun x (j.ref n) o
          ((granted s n j x r).neededSpan x (runOf r.legs) j.volume))
      split
      · exact .refl _
      · exact startRun_calm _ x _ _ _ (hi.trans idle) fun k => by rw [hy]; exact other (by rwa [hk, hn] at k)
    · simp at ht
  · simp at ht

theorem holdForPool_calm {n : Nat} {j : Job} (hj : s.job? n = some j) (hs : j.state = .waiting)
    (hv : j.volume = none) (hg : g) : Calm X g o s (s.holdForPool n j) := by
  have held (r : HoldReason) : Calm X g o s (s.setJobState n (.held r)) := by
    refine updateJob_calm s n _ fun k _ hk => ?_
    obtain rfl := Option.some.inj (hj.symm.trans hk)
    exact ⟨rfl, fun e => by rw [hs] at e; exact absurd hg e, fun e => absurd hv e.2⟩
  have posts (r : HoldReason) (k : PromptKind) (p : PromptParams) :
      Calm X g o s ((s.setJobState n (.held r)).postForJob n k p) := by
    refine (held r).trans (postForJob_calm _ n k p fun i _ hi e => ?_)
    simp only [State.setJobState, updateJob_job, hj, Option.map_some, Option.some.injEq] at hi
    rw [← hi] at e
    exact e
  unfold State.holdForPool
  exact .ite (posts _ _ _) (posts _ _ _)

theorem poolWanted_volume {j : Job} {p : Pool} (h : j.poolWanted = some p) : j.volume = none := by
  unfold Job.poolWanted at h
  split at h
  · simp at h
  · next hv => simpa using hv

theorem consider_calm (n : Nat) (hg : ¬g → noIdleArm s) : Calm X g o s (s.consider n) := by
  unfold State.consider
  split
  · exact .refl s
  · next j hj =>
    split
    · next h =>
      simp only [Bool.and_eq_true, decide_eq_true_eq] at h
      obtain ⟨⟨idle, waits⟩, -⟩ := h
      have grants : g := by
        by_contra k
        obtain ⟨ha, hb⟩ := hg k
        simp [State.anyIdle, ha, hb] at idle
      split
      · next p hp =>
        have hv := poolWanted_volume hp
        split
        · exact holdForPool_calm s hj waits hv grants
        · next v _ =>
          have c : Considered g s n j (s.withCandidate j v) :=
            ⟨hj, ⟨waits, waits⟩, rfl, fun _ => by simp [State.withCandidate], grants⟩
          exact .findSome (fun r hr t ht => propose_calm s c hr ht) (.refl s)
      · exact .findSome (fun r hr t ht => propose_calm s ⟨hj, ⟨waits, waits⟩, rfl, id, grants⟩ hr ht)
          (.refl s)
    · exact .refl s

theorem assignmentPass_calm (hg : ¬g → noIdleArm s) : Calm X g o s s.assignmentPass := by
  have pass (l : List Nat) : ∀ t, (¬g → noIdleArm t) → Calm X g o t (l.foldl State.consider t) := by
    induction l with
    | nil => exact fun t _ => .refl t
    | cons n rest ih =>
      intro t ht
      have step : Calm X g o t (t.consider n) := consider_calm t n ht
      exact step.trans (ih _ fun k => step.noIdle (ht k))
  exact pass _ s hg

/-! ### The mode (R170, R173, R175) -/

theorem sweepDrive_calm (d : DriveId) : Calm X g o s (s.sweepDrive d) := by
  unfold State.sweepDrive
  dsimp only
  split
  · next h =>
    simp only [Bool.and_eq_true, Option.isNone_iff_eq_none] at h
    split
    · next hs => exact create_calm s d _ ⟨h.2, .inl hs⟩
    · next hs =>
      split
      · next ha => exact create_calm s d _ ⟨h.2, .inr ⟨hs, .inr ha⟩⟩
      · exact .refl s
    · next hs =>
      exact .ite (updateDrive_calm s d _ ⟨rfl, fun k => absurd hs k, .inl rfl⟩) (.refl s)
    · exact .refl s
  · exact .refl s

/-- The change to a mode that stands under no other. -/
theorem enterMode_calm (m : Governed) : Calm X g o s (s.enterMode m.mode) := by
  unfold State.enterMode
  dsimp only
  split
  · exact .refl s
  · refine ((withMode_calm s m.mode (forcedAfter s.mode m.mode s.control.quiesceForced)).trans
      (raiseEvent_calm _ .modeChange (.modeChange m.mode s.control.door))).trans ?_
    split
    · exact .refl _
    · cases m with
      | run => exact (Calm.foldl (fun t d _ => sweepDrive_calm t d) _).trans (resumeArms_calm _)
      | quiescing => exact resumeArms_calm _
      | quiesced => exact resumeArms_calm _

theorem endHoming_calm : Calm X g o s s.endHoming := by
  unfold State.endHoming
  split
  · exact .ite (enterMode_calm s _) (.refl s)
  · exact .refl s

theorem quiesceCheck_calm : Calm X g o s s.quiesceCheck := by
  unfold State.quiesceCheck
  exact .ite (enterMode_calm s .quiesced) (.refl s)

/-! ### What follows an event -/

/-- Of the bays that were free no further one is. -/
theorem Calm.freed {t : State} (h : Calm X g o s t) (before : State) (hr : s.freedRings before = [])
    (hh : s.freedHatches before = []) : t.freedRings before = [] ∧ t.freedHatches before = [] := by
  simp only [State.freedRings, State.freedHatches, List.filter_eq_nil_iff, Bool.and_eq_true,
    decide_eq_true_eq, not_and] at hr hh ⊢
  exact ⟨fun b hb k => hr b hb ((h.ring b).free k), fun b hb k => hh b hb ((h.hatch b).free k)⟩

/-- What follows an event is calm. Runs are granted only where an arm may be IDLE, and of the jobs nothing is
said when a bay has become free. -/
theorem finish_calm (before : State) (hg : ¬g → noIdleArm s)
    (hX : (∀ n, X n) ∨ s.freedRings before = [] ∧ s.freedHatches before = []) :
    Calm X g o s (State.finish before s) := by
  have homed : Calm X g o s s.endHoming := endHoming_calm s
  have offered := homed.trans (offerBays_calm s.endHoming before
    (hX.imp_right fun ⟨hr, hh⟩ => homed.freed s before hr hh))
  have retried := ((offered.trans (retryAfter_calm _ before .a)).trans
    (retryAfter_calm _ before .b)).trans (retryAfter_calm _ before .a)
  have passed := retried.trans (assignmentPass_calm _ fun k => retried.noIdle (hg k))
  unfold State.finish
  dsimp only
  split
  · exact passed.trans (quiesceCheck_calm _)
  · exact retried.trans (quiesceCheck_calm _)

/-- What follows an event, where nothing is said of the jobs. -/
theorem finish_calm_any (before : State) : Calm AnyJob True True s (State.finish before s) :=
  finish_calm s before (fun k => absurd trivial k) (.inl fun _ => trivial)

end

end Sys2Proof.DriveString
end

section
/-!
SUPPORT. The end of a job, and what leaves a job without its arm: what they change and what they leave
(R10, R25, R33, R35, R42, R44, R55, R57, R58, R87).
-/

namespace Sys2Proof.DriveString

open Machine

section
variable (s : State)

/-! ### What the end of a job raises (R44, steps 5 to 9) -/

section
variable {g o : Prop}

theorem releasePool_calm (r : HoldReason) : Calm AnyJob g o s (s.releasePool r) :=
  Calm.foldl (fun t n _ => (withdrawJobPrompt_calm t n _ fun _ k _ => absurd trivial k).trans
    (setJobState_calm_of _ n _ trivial)) s

theorem availability_calm (before : State) : Calm AnyJob g o s (State.availability before s) := by
  unfold State.availability
  dsimp only
  refine .trans (t := if s.newlyQualifies before .scratchPool then s.releasePool .noScratch else s) ?_ ?_
  · exact .ite (releasePool_calm s _) (.refl s)
  · exact .ite (releasePool_calm _ _) (.refl _)

theorem heldPosting_calm (n : Nat) (t : JobState) (k : PromptKind) (p : PromptParams) :
    Calm AnyJob g o s ((s.setJobState n t).postForJob n k p) :=
  (setJobState_calm_of s n t trivial).trans (postForJob_calm _ n k p fun _ h _ => absurd trivial h)

theorem unhold_calm (n : Nat) : Calm AnyJob g o s (s.unhold n) := by
  unfold State.unhold
  split
  · exact .refl s
  · exact .ite ((updateJob_calm_of s n _ trivial).trans (heldPosting_calm _ n _ _ _))
      ((updateJob_calm_of s n _ trivial).trans (setJobState_calm_of _ n _ trivial))

theorem allowanceStep_calm (n : Nat) : Calm AnyJob g o s (s.allowanceStep n) := by
  unfold State.allowanceStep
  split
  · exact .refl s
  · refine .ite (unhold_calm s n) (.ite ?_ (heldPosting_calm s n _ _ _))
    exact ((updateAccount_calm s _ _).trans (updateJob_calm_of _ n _ trivial)).trans (unhold_calm _ n)

theorem holdEval_calm (n : Nat) : Calm AnyJob g o s (s.holdEval n) := by
  have kind (k : MountKind) : Calm AnyJob g o s (s.updateJob n fun j => { j with mountKind := k }) :=
    updateJob_calm_of s n _ trivial
  unfold State.holdEval
  split
  · exact .refl s
  · split
    · exact .ite (allowanceStep_calm s n) ((kind .foreign).trans (allowanceStep_calm _ n))
    · refine .ite ((kind .manual).trans (allowanceStep_calm _ n)) ((kind .robot).trans ?_)
      exact .ite (heldPosting_calm _ n _ _ _) (.ite (heldPosting_calm _ n _ _ _)
        (.ite (setJobState_calm_of _ n _ trivial) (allowanceStep_calm _ n)))

theorem recheckWaiting_calm (v : Option Nat) : Calm AnyJob g o s (s.recheckWaiting v) := by
  unfold State.recheckWaiting
  split
  · exact .refl s
  · exact Calm.foldl (fun t n _ => holdEval_calm t n) s

theorem makeOwed_calm {X : Nat → Prop} (d : DriveId) : Calm X g True s (s.makeOwed d) := by
  unfold State.makeOwed
  split
  · next k _ _ =>
    dsimp only
    refine (setOwed_calm s d none).trans ?_
    split
    · next h =>
      simp only [Bool.and_eq_true, decide_eq_true_eq, Option.isNone_iff_eq_none] at h
      refine create_calm _ d k ⟨h.2, ?_⟩
      rw [h.1]
      cases k
      · exact .inr ⟨rfl, .inl trivial⟩
      · exact .inl rfl
      · exact .inr ⟨rfl, .inl trivial⟩
    · exact .refl _
  · exact .refl s

theorem afterEnd_calm {X : Nat → Prop} (d : DriveId) : Calm X g o s (s.afterEnd d) := by
  unfold State.afterEnd
  dsimp only
  split
  · exact .refl s
  · next hj =>
    have hj : (s.drive d).job = none := by simpa using hj
    split
    · next h => exact create_calm s d _ ⟨hj, .inl h⟩
    · split
      · next h =>
        simp only [Bool.and_eq_true, decide_eq_true_eq] at h
        exact create_calm s d _ ⟨hj, .inr ⟨h.1, .inr h.2⟩⟩
      · exact .refl s

end

/-! ### The end of a job (R44), step by step -/

/-- The origin of a job has been sent its outcome. -/
def outcomeSent (n : Nat) (j : Job) (frame : Option Lifecycle) : State :=
  match j.outcome frame with
  | some f => s.sendLifecycle n f
  | none => s

/-- A job has no prompt and no unused bay any more. -/
def unburdened (n : Nat) : State := (s.withdrawJobPrompt n fun _ => true).giveBackBays n

/-- The drive of a job has been told of its end. -/
def driveTold (n : Nat) (j : Job) : State :=
  match j.drive with
  | some d => s.driveJobEnded n d
  | none => s

/-- The count of a mount that was cancelled unmounted has been returned. -/
def countReturned (j : Job) : State :=
  if j.kind = .mount && j.cancelled && !j.mounted then s.returnCount j.account j.counted else s

/-- A job is off the list. -/
def struckOff (n : Nat) : State := { s with work := { s.work with jobs := s.work.jobs.erase n } }

/-- What the end of a job raises for others, after it is off the list. -/
def endRaised (before : State) (j : Job) (frame : Option Lifecycle) : State :=
  let s := (State.availability before s).recheckWaiting j.volume
  let s := allDrives.foldl State.makeOwed s
  match j.drive with
  | some d => if j.outcome frame = some .cancelled then s else s.afterEnd d
  | none => s

/-- The arm of an ended job has been given back. -/
def armGivenBack (j : Job) : State :=
  match j.arm with
  | some x => s.giveBackArm x
  | none => s

/-- The end of a job up to its leaving the list. -/
def leaving (n : Nat) (j : Job) (frame : Option Lifecycle) : State :=
  countReturned (driveTold (unburdened (outcomeSent s n j frame) n) n j) j

theorem endJob_eq {n : Nat} {j : Job} (frame : Option Lifecycle) (h : s.job? n = some j) :
    s.endJob n frame = armGivenBack (endRaised (struckOff (leaving s n j frame) n)
      (leaving s n j frame) j frame) j := by
  unfold State.endJob
  rw [h]
  rfl

theorem endJob_none {n : Nat} (frame : Option Lifecycle) (h : s.job? n = none) : s.endJob n frame = s := by
  unfold State.endJob
  rw [h]

theorem endRaised_calm (before : State) (j : Job) (frame : Option Lifecycle) :
    Calm AnyJob True True s (endRaised s before j frame) := by
  unfold endRaised
  dsimp only
  refine .trans (t := allDrives.foldl State.makeOwed ((State.availability before s).recheckWaiting j.volume))
    (((availability_calm s before).trans (recheckWaiting_calm _ _)).trans
      (Calm.foldl (fun t d _ => makeOwed_calm t d) _)) ?_
  split
  · exact .ite (.refl _) (afterEnd_calm _ _)
  · exact .refl _

/-! ### Small steps, said once -/

theorem raiseEvent_same (c : NoticeClass) (d : NoticeData) : s.raiseEvent c d =
    { s with notices := (s.raiseEvent c d).notices, sent := (s.raiseEvent c d).sent } := by
  unfold State.raiseEvent
  split <;> rfl

theorem setLevel_same (c : NoticeClass) (b : Bool) (d : NoticeData) : s.setLevel c b d =
    { s with notices := (s.setLevel c b d).notices, sent := (s.setLevel c b d).sent } := by
  unfold State.setLevel State.sendNotice
  dsimp only
  (repeat' split) <;> rfl

theorem logError_same (k : ErrorKind) (c : ErrorSeverity) (f : ErrorFields) : s.logError k c f =
    { s with
      errors := s.errors.record (s.errorEntry k c f)
      notices := (s.logError k c f).notices, sent := (s.logError k c f).sent } := by
  unfold State.logError
  dsimp only
  rw [raiseEvent_same]

/-- Logging an error sends nothing but a notice. -/
theorem logError_sent (k : ErrorKind) (c : ErrorSeverity) (f : ErrorFields) :
    s.sent <+: (s.logError k c f).sent :=
  (raiseEvent_calm (X := NoJob) (g := True) (o := True)
    { s with errors := s.errors.record (s.errorEntry k c f) } _ _).sent

theorem sendLifecycle_same (n : Nat) (f : Lifecycle) : s.sendLifecycle n f =
    { s with sent := (s.sendLifecycle n f).sent, work := (s.sendLifecycle n f).work } := by
  unfold State.sendLifecycle
  (repeat' split) <;> rfl

theorem sendLifecycle_sent (n : Nat) (f : Lifecycle) : s.sent <+: (s.sendLifecycle n f).sent := by
  unfold State.sendLifecycle
  split
  · split
    · exact List.prefix_append _ _
    · exact List.prefix_rfl
  · exact List.prefix_rfl

/-- The origin of a job, when it has one, is sent the frame. -/
theorem sendLifecycle_told {n : Nat} {j : Job} {og : Origin} (f : Lifecycle) (h : s.job? n = some j)
    (ho : j.origin = some og) :
    (s.sendLifecycle n f).sent = s.sent ++ [.link og.link (.lifecycle og.tag f n j.drive j.serial)] := by
  unfold State.sendLifecycle
  rw [h]
  simp only [ho]
  rfl

theorem giveBackBays_same (n : Nat) : s.giveBackBays n =
    { s with station := (s.giveBackBays n).station, work := (s.giveBackBays n).work } := by
  unfold State.giveBackBays
  split <;> rfl

theorem returnCount_same (a : AccountId) (c : Counted) :
    s.returnCount a c = { s with accounting := (s.returnCount a c).accounting } := by
  cases c <;> rfl

theorem countReturned_same (j : Job) :
    countReturned s j = { s with accounting := (countReturned s j).accounting } := by
  unfold countReturned
  split
  · exact returnCount_same s _ _
  · rfl

theorem outcomeSent_same (n : Nat) (j : Job) (f : Option Lifecycle) : outcomeSent s n j f =
    { s with sent := (outcomeSent s n j f).sent, work := (outcomeSent s n j f).work } := by
  unfold outcomeSent
  split
  · exact sendLifecycle_same s n _
  · rfl

theorem outcomeSent_sent (n : Nat) (j : Job) (f : Option Lifecycle) :
    s.sent <+: (outcomeSent s n j f).sent := by
  unfold outcomeSent
  split
  · exact sendLifecycle_sent s n _
  · exact List.prefix_rfl

/-! ### Drives entering SERVICE or being emptied (R33, R35, R37) -/

theorem withdrawDriveService_asked (d : DriveId) :
    Asked (fun _ x => x = .drive d) s (s.withdrawDriveService d) := by
  unfold State.withdrawDriveService
  refine Asked.trans ?_ (dropOwed_asked _ _ _)
  split
  · next p _ =>
    refine .trans ?_ (withdraw_asked _ (.drive d) p)
    exact updateDrive_asked s d (fun e => { e with servicePrompt := none }) fun _ => rfl
  · exact .refl s

/-- A drive's posting closes no prompt. -/
theorem post_drive_asked {W : Nat → Owner → Prop} (d : DriveId) (k : PromptKind) (p : PromptParams) (b : Bool) :
    Asked W s (s.post (.drive d) k p b) :=
  (post_asked s (.drive d) k p b).mono fun _ _ _ ⟨_, _, h, _⟩ => by simp at h

/-- An arm's posting closes no prompt. -/
theorem post_arm_asked {W : Nat → Owner → Prop} (x : ArmId) (k : PromptKind) (p : PromptParams) (b : Bool) :
    Asked W s (s.post (.arm x) k p b) :=
  (post_asked s (.arm x) k p b).mono fun _ _ _ ⟨_, _, h, _⟩ => by simp at h

theorem postService_asked (d : DriveId) : Asked (fun _ x => x = .drive d) s (s.postService d) := by
  unfold State.postService
  split
  · exact (withdrawDriveService_asked s d).trans (post_drive_asked _ _ _ _ _)
  · split
    · exact .refl s
    · exact post_drive_asked s _ _ _ _

/-- The entry of a drive that enters SERVICE, but for its prompts. -/
theorem enterService_drive (d : DriveId) : unaskedDrive ((s.enterService d).drive d) =
    unaskedDrive { s.drive d with
      state := .service, loadTimer := .stopped, cleaningTimer := .stopped, job := none } := by
  unfold State.enterService
  rw [(postService_asked _ d).drive, State.evalDriveService, setLevel_same]
  exact congrArg unaskedDrive (updateDrive_drive s d _)

end

end Sys2Proof.DriveString
end

section
/-!
SUPPORT. What settling a job leaves, whoever it is: arms at rest, drives out of use, prompts of arms, and the
errors just logged (R25, R33, R35, R42, R44, R55, R64, R79, R87).
-/

namespace Sys2Proof.DriveString

open Machine

/-! ### The error log after further errors (R195, R196) -/

/-- The log has recorded at most `k` further errors. -/
def Grew (k : Nat) (log log' : ErrorLog) : Prop :=
  ∃ es : List ErrorEntry, es.length ≤ k ∧ log' = es.foldl (fun l e => l.record e) log

theorem Grew.refl (k : Nat) (log : ErrorLog) : Grew k log log := ⟨[], Nat.zero_le k, rfl⟩

theorem Grew.one (e : ErrorEntry) (log : ErrorLog) : Grew 1 log (log.record e) := ⟨[e], Nat.le_refl 1, rfl⟩

theorem Grew.trans {k m : Nat} {a b c : ErrorLog} (h : Grew k a b) (i : Grew m b c) : Grew (k + m) a c := by
  obtain ⟨es, he, rfl⟩ := h
  obtain ⟨fs, hf, rfl⟩ := i
  exact ⟨es ++ fs, by rw [List.length_append]; omega, by rw [List.foldl_append]⟩

theorem Grew.mono {k m : Nat} {a b : ErrorLog} (h : Grew k a b) (hk : k ≤ m) : Grew m a b := by
  obtain ⟨es, he, rfl⟩ := h
  exact ⟨es, he.trans hk, rfl⟩

/-- An entry with no more than `k` newer ones stays in the ring through `m` further errors. -/
theorem record_keeps {e : ErrorEntry} (es : List ErrorEntry) :
    ∀ {k : Nat} {log : ErrorLog} (a b : List ErrorEntry), log.ring = a ++ e :: b → b.length ≤ k →
      k + es.length ≤ 15 → e ∈ (es.foldl (fun l e => l.record e) log).ring := by
  induction es with
  | nil => intro k log a b h _ _; simp [h]
  | cons f rest ih =>
    intro k log a b h hb hk
    rw [List.length_cons] at hk
    rw [List.foldl_cons]
    have hr : (log.record f).ring = (if log.ring.length < 16 then log.ring else log.ring.drop 1) ++ [f] := rfl
    split at hr
    · exact ih (k := k + 1) a (b ++ [f]) (by rw [hr, h]; simp) (by simpa using hb) (by omega)
    · next hl =>
      cases a with
      | nil => rw [h] at hl; simp at hl; omega
      | cons c a => exact ih (k := k + 1) a (b ++ [f]) (by rw [hr, h]; simp) (by simpa using hb) (by omega)

/-- An error stays logged through 15 further ones. -/
theorem logged_of_grew {k : ErrorKind} {c : ErrorSeverity} {f : ErrorFields} {s t : State}
    (h : Grew 15 (s.logError k c f).errors t.errors) : logged k c s t := by
  obtain ⟨es, he, ht⟩ := h
  rw [logError_errors] at ht
  refine ⟨s.errorEntry k c f, ?_, rfl, rfl, rfl, rfl⟩
  rw [ht]
  exact record_keeps es _ [] rfl (Nat.zero_le 0) (by simpa using he)

/-! ### What settling a job leaves -/

/-- The drive is in SERVICE with no job. -/
def OutOfUse (e : Drive) : Prop := e.job = none ∧ e.state = .service

/-- An arm without its job and the number of its prompt. -/
def offDuty (a : Arm) : Arm := { a with job := none, faultPrompt := none }

/-- The parts of a state that the settling of a job leaves. -/
def quiet (s : State) : Still := { bare s with errors := State.reset.errors }

/-- From `s` to `t` nothing that a job's settling leaves has changed, frames have been sent, and at most `k`
errors were logged. -/
structure Slight (k : Nat) (s t : State) : Prop where
  quiet : quiet t = quiet s
  errors : Grew k s.errors t.errors
  sent : s.sent <+: t.sent

namespace Slight

variable {k m : Nat} {s t u : State}

theorem refl (s : State) : Slight k s s := ⟨rfl, .refl k _, List.prefix_rfl⟩

theorem trans (h : Slight k s t) (i : Slight m t u) : Slight (k + m) s u :=
  ⟨i.quiet.trans h.quiet, h.errors.trans i.errors, h.sent.trans i.sent⟩

theorem mono (h : Slight k s t) (hk : k ≤ m) : Slight m s t := ⟨h.quiet, h.errors.mono hk, h.sent⟩

end Slight

/-- From `s` to `t` a job may have been settled: at most `k` errors were logged, and drives out of use, arms at
rest and the prompts of arms stand. -/
structure Loose (k : Nat) (s t : State) : Prop extends Slight k s t where
  drive : ∀ d, OutOfUse (s.drive d) → DriveCalm True (s.drive d) (t.drive d)
  arm : ∀ x, Resting (s.arm x) → offDuty (t.arm x) = offDuty (s.arm x)
  prompt : ∀ m k x, prompted s m = some (k, .arm x) → prompted t m = some (k, .arm x)

namespace Loose

variable {k m : Nat} {s t u : State}

theorem refl (s : State) : Loose k s s :=
  ⟨.refl s, fun _ _ => .refl _, fun _ _ => rfl, fun _ _ _ h => h⟩

theorem trans (h : Loose k s t) (i : Loose m t u) : Loose (k + m) s u where
  toSlight := h.toSlight.trans i.toSlight
  drive d hd := by
    have e := h.drive d hd
    have out : OutOfUse (t.drive d) := by
      refine ⟨?_, e.state.trans hd.2⟩
      rcases e.job with j | ⟨-, w | ⟨w, -⟩⟩
      · exact j.trans hd.1
      · rw [hd.2] at w; simp at w
      · rw [hd.2] at w; simp at w
    exact e.trans (i.drive d out)
  arm x hx := by
    have e := h.arm x hx
    have rest : Resting (t.arm x) := by
      have hn : (t.arm x).nextOrder = (s.arm x).nextOrder := (congrArg Arm.nextOrder e :)
      have hs : (t.arm x).state = (s.arm x).state := (congrArg Arm.state e :)
      unfold Resting
      rwa [hn, hs]
    exact (i.arm x rest).trans e
  prompt n c x hx := i.prompt n c x (h.prompt n c x hx)

theorem mono (h : Loose k s t) (hk : k ≤ m) : Loose m s t where
  toSlight := h.toSlight.mono hk
  drive := h.drive
  arm := h.arm
  prompt := h.prompt

/-- Either branch. -/
theorem ite {p : Prop} [Decidable p] (h : Loose k s t) (i : Loose k s u) :
    Loose k s (if p then t else u) := by split <;> assumption

end Loose

theorem Calm.loose {X : Nat → Prop} {g o : Prop} {s t : State} (h : Calm X g o s t) : Loose 0 s t where
  quiet := by simp only [quiet, h.bare]
  errors := by
    have : t.errors = s.errors := congrArg Still.errors h.bare
    rw [this]; exact .refl 0 _
  sent := h.sent
  drive d _ := ⟨(h.drive d).same, (h.drive d).timer, (h.drive d).job.imp_right fun ⟨hj, hs⟩ =>
    ⟨hj, hs.imp_right fun ⟨hs, ha⟩ => ⟨hs, .inl trivial⟩⟩⟩
  arm x hx := (congrArg offDuty ((h.arm x).rest hx) :)
  prompt m k x hx := h.prompt m _ hx fun r hr => by simp at hr

theorem Asked.loose {W : Nat → Owner → Prop} {s t : State} (h : Asked W s t)
    (hW : ∀ m x, ¬W m (.arm x)) : Loose 0 s t where
  quiet := by simp only [quiet, bare, h.still]
  errors := by
    have : t.errors = s.errors := congrArg Still.errors h.still
    rw [this]; exact .refl 0 _
  sent := h.sent
  drive d _ := by
    have e := h.drive d
    exact ⟨(congrArg calmDrive e :), fun _ => (congrArg Drive.cleaningTimer e :),
      .inl (congrArg Drive.job e :)⟩
  arm x _ := (congrArg offDuty (h.arm x) :)
  prompt m k x hx := h.prompt m _ hx (hW m x)

section
variable (s : State)

/-- A step on the jobs, the bays and the accounts alone, with frames sent. -/
theorem loose_of_same {t : State} (h : t = { s with sent := t.sent, work := t.work, station := t.station, accounting := t.accounting })
    (hs : s.sent <+: t.sent) : Loose 0 s t where
  quiet := by rw [h]; rfl
  errors := by rw [h]; exact .refl 0 _
  sent := hs
  drive d _ := by rw [h]; exact .refl _
  arm x _ := by rw [h]; cases x <;> rfl
  prompt m k x hx := by rw [h]; exact hx

theorem updateJob_loose (n : Nat) (f : Job → Job) : Loose 0 s (s.updateJob n f) :=
  loose_of_same s rfl List.prefix_rfl

theorem setJobState_loose (n : Nat) (t : JobState) : Loose 0 s (s.setJobState n t) := updateJob_loose s n _

theorem giveBackBays_loose (n : Nat) : Loose 0 s (s.giveBackBays n) :=
  loose_of_same s (by rw [giveBackBays_same]) (by rw [giveBackBays_same])

theorem updateDrive_loose (d : DriveId) (f : Drive → Drive) (h : ¬OutOfUse (s.drive d)) :
    Loose 0 s (s.updateDrive d f) where
  quiet := rfl
  errors := .refl 0 _
  sent := List.prefix_rfl
  drive e he := by
    by_cases k : d = e
    · subst k; exact absurd he h
    · rw [updateDrive_drive_ne _ _ _ _ k]; exact .refl _
  arm _ _ := rfl
  prompt _ _ _ h := h

/-- A step on an arm that is not at rest, or one that only takes its job away. -/
theorem updateArm_loose (x : ArmId) (f : Arm → Arm)
    (h : Resting (s.arm x) → offDuty (f (s.arm x)) = offDuty (s.arm x)) : Loose 0 s (s.updateArm x f) where
  quiet := by cases x <;> rfl
  errors := by cases x <;> exact .refl 0 _
  sent := by cases x <;> exact List.prefix_rfl
  drive d _ := by cases x <;> exact .refl _
  arm y hy := by cases x <;> cases y <;> first | exact h hy | rfl
  prompt _ _ _ k := by cases x <;> exact k

theorem logError_loose (k : ErrorKind) (c : ErrorSeverity) (f : ErrorFields) :
    Loose 1 s (s.logError k c f) where
  quiet := by rw [logError_same]; rfl
  errors := by rw [logError_errors]; exact .one _ _
  sent := logError_sent s k c f
  drive d _ := by rw [logError_same]; exact .refl _
  arm x _ := by rw [logError_same]; cases x <;> rfl
  prompt m i x h := by rw [logError_same]; exact h

theorem postForJob_loose (n : Nat) (k : PromptKind) (p : PromptParams) : Loose 0 s (s.postForJob n k p) :=
  (postForJob_asked s n k p).loose fun _ _ ⟨_, h, _⟩ => by simp at h

theorem withdrawJobPrompt_loose (n : Nat) (k : PromptKind → Bool) : Loose 0 s (s.withdrawJobPrompt n k) :=
  (withdrawJobPrompt_asked s n k).loose fun _ _ ⟨_, h, _⟩ => by simp at h

/-! ### Drives -/

theorem evalDriveService_loose : Loose 0 s s.evalDriveService :=
  (setLevel_calm (X := NoJob) (g := True) (o := True) s _ _ _).loose

theorem evalArmState_loose : Loose 0 s s.evalArmState :=
  (setLevel_calm (X := NoJob) (g := True) (o := True) s _ _ _).loose

theorem postService_loose (d : DriveId) : Loose 0 s (s.postService d) :=
  (postService_asked s d).loose fun _ _ h => by simp at h

theorem enterService_loose (d : DriveId) (h : ¬OutOfUse (s.drive d)) : Loose 0 s (s.enterService d) := by
  unfold State.enterService
  refine .trans (k := 0) (m := 0) ?_ (postService_loose _ d)
  exact .trans (k := 0) (m := 0) (updateDrive_loose s d _ h) (evalDriveService_loose _)

theorem emptyDrive_loose (d : DriveId) (h : (s.drive d).state ≠ .service) : Loose 0 s (s.emptyDrive d) := by
  have out : ¬OutOfUse (s.drive d) := fun k => h k.2
  have plain (f : Drive → Drive) : Loose 0 s (s.updateDrive d f) := updateDrive_loose s d f out
  unfold State.emptyDrive
  dsimp only
  refine .trans (k := 0) (m := 0) (plain fun e => { e with lastMountKind := none }) ?_
  have here : ¬OutOfUse ((s.updateDrive d fun e => { e with lastMountKind := none }).drive d) := by
    rw [updateDrive_drive]; exact out
  split
  · exact enterService_loose _ d here
  · split
    · refine .trans (k := 0) (m := 0)
        (updateDrive_loose _ d (fun e => { e with state := .cleanDue }) here) ?_
      split
      · next hj =>
        refine (create_calm (X := NoJob) (g := True) (o := True) _ d .clean ⟨?_, .inl ?_⟩).loose
        · simpa using hj
        · rw [updateDrive_drive]
      · exact .refl _
    · exact updateDrive_loose _ d _ here

theorem driveJobEnded_loose (n : Nat) (d : DriveId) : Loose 0 s (s.driveJobEnded n d) := by
  unfold State.driveJobEnded
  split
  · next hj =>
    dsimp only
    have out : ¬OutOfUse (s.drive d) := fun k => by have := hj.symm.trans k.1; simp at this
    refine .trans (k := 0) (m := 0) (updateDrive_loose s d (fun e => { e with job := none }) out) ?_
    split
    · next hs => exact emptyDrive_loose _ d (by rw [updateDrive_drive, hs]; simp)
    · split
      · next hs =>
        refine enterService_loose _ d fun k => ?_
        rw [OutOfUse, updateDrive_drive, hs] at k
        exact absurd k.2 (by simp)
      · exact .refl _
  · exact .refl s

theorem updateDrive_slight (d : DriveId) (f : Drive → Drive) : Slight 0 s (s.updateDrive d f) :=
  ⟨rfl, .refl 0 _, List.prefix_rfl⟩

theorem enterService_slight (d : DriveId) : Slight 0 s (s.enterService d) := by
  unfold State.enterService
  refine .trans (k := 0) (m := 0) ?_ (postService_loose _ d).toSlight
  exact .trans (k := 0) (m := 0) (updateDrive_slight s d _) (evalDriveService_loose _).toSlight

/-! ### Arms -/

theorem updateArm_slight (x : ArmId) (f : Arm → Arm) : Slight 0 s (s.updateArm x f) := by
  cases x <;> exact ⟨rfl, .refl 0 _, List.prefix_rfl⟩

theorem disableCore_slight (x : ArmId) : Slight 1 s (s.disableCore x) := by
  unfold State.disableCore State.postArmFault
  dsimp only
  refine .trans (k := 1) (m := 0) ?_
    ((post_arm_asked (W := fun _ _ => False) _ _ _ _ _).loose fun _ _ k => k).toSlight
  refine .trans (k := 1) (m := 0) ?_ (evalArmState_loose _).toSlight
  exact .trans (k := 1) (m := 0) (logError_loose s _ _ _).toSlight (updateArm_slight _ x _)

/-- A disabled arm, but for the number of its prompt. -/
theorem disableCore_arm (x : ArmId) : unaskedArm ((s.disableCore x).arm x) =
    unaskedArm { s.arm x with
      state := .disabled, claim := (s.arm x).disabledClaim x, interrupted := none, nextOrder := none
      supervision := .stopped } := by
  unfold State.disableCore State.postArmFault
  dsimp only
  rw [(post_arm_asked (W := fun _ _ => False) _ _ _ _ _).arm, State.evalArmState, setLevel_same, logError_same]
  cases x <;> rfl

/-- With a free entry in the table a disabled arm asks for its repair (R87). -/
theorem disableCore_prompted (x : ArmId) (h : s.desk.prompts.length < 32) :
    ∃ m, prompted (s.disableCore x) m = some (.armFault, .arm x) := by
  unfold State.disableCore State.postArmFault
  dsimp only
  rw [post_eq, if_pos]
  · refine postNow_prompted _ _ ?_
    rw [readied_arm, State.evalArmState, setLevel_same, logError_same]
    cases x <;> exact h
  · rw [readied_arm, State.evalArmState, setLevel_same, logError_same]
    cases x <;> exact h

theorem disableCore_loose (x : ArmId) (h : ¬Resting (s.arm x)) : Loose 1 s (s.disableCore x) := by
  unfold State.disableCore State.postArmFault
  dsimp only
  refine .trans (k := 1) (m := 0) ?_ ((post_arm_asked (W := fun _ _ => False) _ _ _ _ _).loose fun _ _ k => k)
  refine .trans (k := 1) (m := 0) ?_ (evalArmState_loose _)
  refine .trans (k := 1) (m := 0) (logError_loose s _ _ _) (updateArm_loose _ x _ fun k => ?_)
  rw [logError_same] at k
  cases x <;> exact absurd k h

theorem giveBackArm_loose (x : ArmId) : Loose 1 s (s.giveBackArm x) := by
  unfold State.giveBackArm
  dsimp only
  refine .trans (k := 0) (m := 1) (updateArm_loose s x (fun a =>
    { a with job := none, nextOrder := if a.nextOrder = some .home then some .home else none }) fun k => ?_) ?_
  · simp only [offDuty, k.1]; rfl
  · split
    · next hm =>
      simp only [Bool.and_eq_true, decide_eq_true_eq] at hm
      have busy (f : Arm → Arm) (hf : (f (s.arm x)).state = (s.arm x).state) :
          ¬Resting ((s.updateArm x f).arm x) := by
        rw [updateArm_arm]; exact not_resting_of_moving (hf.trans hm.1)
      split
      · refine (Loose.trans (k := 0) (m := 0) (updateArm_loose _ x _ fun k => absurd k (busy _ rfl))
          (evalArmState_loose _)).mono (Nat.zero_le 1)
      · exact disableCore_loose _ x (busy _ rfl)
    · exact .refl _

theorem releaseArm_loose (n : Nat) : Loose 1 s (s.releaseArm n) := by
  unfold State.releaseArm
  split
  · split
    · exact .trans (k := 0) (m := 1) (updateJob_loose s n _) (giveBackArm_loose _ _)
    · exact .refl s
  · exact .refl s

/-! ### Jobs -/

theorem sendFailure_loose (n : Nat) (f : Lifecycle) : Loose 0 s (s.sendFailure n f) := by
  unfold State.sendFailure
  split
  · exact .ite (.refl s) (loose_of_same s (by rw [sendLifecycle_same]) (sendLifecycle_sent s n f))
  · exact .refl s

theorem outcomeSent_loose (n : Nat) (j : Job) (f : Option Lifecycle) : Loose 0 s (outcomeSent s n j f) :=
  loose_of_same s (by rw [outcomeSent_same]) (outcomeSent_sent s n j f)

theorem unburdened_loose (n : Nat) : Loose 0 s (unburdened s n) :=
  .trans (k := 0) (m := 0) (withdrawJobPrompt_loose s n _) (giveBackBays_loose _ n)

theorem driveTold_loose (n : Nat) (j : Job) : Loose 0 s (driveTold s n j) := by
  unfold driveTold
  split
  · exact driveJobEnded_loose s n _
  · exact .refl s

theorem struckOff_loose (n : Nat) : Loose 0 s (struckOff s n) := loose_of_same s rfl List.prefix_rfl

theorem countReturned_loose (j : Job) : Loose 0 s (countReturned s j) :=
  loose_of_same s (by rw [countReturned_same]) (by rw [countReturned_same])

/-- Up to the giving back of its arm the end of a job logs nothing after its outcome has been sent. -/
theorem endRaised_loose_from {n : Nat} {j : Job} (frame : Option Lifecycle) :
    Loose 0 (outcomeSent s n j frame)
      (endRaised (struckOff (leaving s n j frame) n) (leaving s n j frame) j frame) := by
  refine .trans (k := 0) (m := 0) ?_ (endRaised_calm _ _ _ _).loose
  refine .trans (k := 0) (m := 0) ?_ (struckOff_loose _ n)
  refine .trans (k := 0) (m := 0) ?_ (countReturned_loose _ j)
  exact .trans (k := 0) (m := 0) (unburdened_loose _ n) (driveTold_loose _ n j)

/-- After its outcome has been sent the end of a job logs at most one error, of an arm given back. -/
theorem endJob_loose_from {n : Nat} {j : Job} (frame : Option Lifecycle) (h : s.job? n = some j) :
    Loose 1 (outcomeSent s n j frame) (s.endJob n frame) := by
  rw [endJob_eq s frame h]
  refine .trans (k := 0) (m := 1) (endRaised_loose_from s frame) ?_
  unfold armGivenBack
  split
  · exact giveBackArm_loose _ _
  · exact .refl _

theorem endJob_loose (n : Nat) (frame : Option Lifecycle) : Loose 1 s (s.endJob n frame) := by
  cases h : s.job? n with
  | none => rw [endJob_none s frame h]; exact .refl s
  | some j => exact .trans (k := 0) (m := 1) (outcomeSent_loose s n j frame) (endJob_loose_from s frame h)

theorem dropVolume_loose (n : Nat) : Loose 0 s (s.dropVolume n) := by
  unfold State.dropVolume
  dsimp only
  refine .trans (k := 0) (m := 0) ?_ (setJobState_loose _ n _)
  exact .trans (k := 0) (m := 0) (unburdened_loose s n) (updateJob_loose _ n _)

theorem settleTaken_loose (n : Nat) : Loose 1 s (s.settleTaken n) := by
  unfold State.settleTaken
  split
  · exact .ite (.trans (k := 0) (m := 1) (dropVolume_loose s n) (releaseArm_loose _ n)) (endJob_loose s n _)
  · exact .refl s

theorem settlePending_loose (n : Nat) (t : State) (h : s.settlePending n = some t) : Loose 1 s t := by
  unfold State.settlePending at h
  split at h
  · simp at h
  · repeat' split at h
    · exact Option.some.inj h ▸ endJob_loose s n _
    · exact Option.some.inj h ▸ endJob_loose s n _
    · exact Option.some.inj h ▸ endJob_loose s n _
    · exact Option.some.inj h ▸ settleTaken_loose s n
    · simp at h

theorem turnTakenAtRing_loose (n : Nat) : Loose 0 s (s.turnTakenAtRing n) := by
  unfold State.turnTakenAtRing
  split
  · split
    · exact .trans (k := 0) (m := 0) (sendFailure_loose s n _) (updateJob_loose _ n _)
    · exact .refl s
  · exact .refl s

theorem settleOr_loose (n : Nat) (goesOn : State → State) (h : ∀ t, Loose 1 t (goesOn t)) :
    Loose 1 s (s.settleOr n goesOn) := by
  unfold State.settleOr
  split
  · next t ht => exact settlePending_loose s n t ht
  · exact .trans (k := 0) (m := 1) (turnTakenAtRing_loose s n) (h _)

theorem withdrawGrant_loose (x : ArmId) : Loose 1 s (s.withdrawGrant x) := by
  unfold State.withdrawGrant
  split
  · exact .refl s
  · refine .ite (settleOr_loose s _ _ fun t => ?_) (.refl s)
    exact .trans (k := 0) (m := 1) (.trans (k := 0) (m := 0) (giveBackBays_loose t _) (setJobState_loose _ _ _))
      (releaseArm_loose _ _)

/-- After the arm itself is disabled, what happens to its job logs at most one error more. -/
theorem disable_loose (x : ArmId) : Loose 1 (s.disableCore x) (s.disable x) := by
  unfold State.disable
  dsimp only
  split
  · exact .ite (withdrawGrant_loose _ _) (.refl _)
  · next n _ _ =>
    refine .ite (settleOr_loose _ _ _ fun t => ?_) ((setJobState_loose _ _ _).mono (Nat.zero_le 1))
    refine .trans (k := 1) (m := 0) ?_ (setJobState_loose _ _ _)
    refine .trans (k := 1) (m := 0) ?_ (updateJob_loose _ _ _)
    exact .trans (k := 1) (m := 0) (releaseArm_loose t _) (giveBackBays_loose _ _)

end

end Sys2Proof.DriveString
end

section
/-!
SUPPORT. From what an operation leaves to what a statement says of it: unchanged blocks, frames sent, open
prompts, and the tag an order takes (R71).
-/

namespace Sys2Proof.DriveString

open Machine

variable {s t u : State}

/-! ### Unchanged blocks -/

theorem unchangedBut_mono {bs cs : List Block} (h : unchangedBut bs s t) (hb : bs ⊆ cs) :
    unchangedBut cs s t := ⟨fun b hn => h.1 b fun hm => hn (hb hm), h.2⟩

theorem unchangedBut_trans {bs : List Block} (h : unchangedBut bs s t) (k : unchangedBut bs t u) :
    unchangedBut bs s u := by
  refine ⟨fun b hb => ?_, k.2.1.trans h.2.1, k.2.2.trans h.2.2⟩
  have h := h.1 b hb
  have k := k.1 b hb
  cases b <;> exact k.trans h

/-- What keeps the parts still, errors and accounts apart, changes those and the blocks of the aftermath. -/
theorem unchangedBut_of_quiet (h : quiet t = quiet s) :
    unchangedBut (aftermath ++ [.errors, .accounting]) s t := by
  refine ⟨fun b hb => ?_, (congrArg Still.pending h :), (congrArg Still.choices h :)⟩
  cases b <;> first
    | exact absurd (by decide) hb
    | exact (congrArg Still.intake h :)
    | exact (congrArg Still.map h :)
    | exact (congrArg Still.clock h :)
    | exact (congrArg Still.causes h :)
    | exact (congrArg Still.policy h :)

theorem unchangedBut_of_bare (h : bare t = bare s) : unchangedBut (aftermath ++ [.accounting]) s t := by
  refine ⟨fun b hb => ?_, (congrArg Still.pending h :), (congrArg Still.choices h :)⟩
  cases b <;> first
    | exact absurd (by decide) hb
    | exact (congrArg Still.intake h :)
    | exact (congrArg Still.map h :)
    | exact (congrArg Still.clock h :)
    | exact (congrArg Still.errors h :)
    | exact (congrArg Still.causes h :)
    | exact (congrArg Still.policy h :)

theorem unchangedBut_of_still (h : t.still = s.still) : unchangedBut aftermath s t := by
  refine ⟨fun b hb => ?_, (congrArg Still.pending h :), (congrArg Still.choices h :)⟩
  cases b <;> first
    | exact absurd (by decide) hb
    | exact (congrArg Still.intake h :)
    | exact (congrArg Still.map h :)
    | exact (congrArg Still.clock h :)
    | exact (congrArg Still.accounting h :)
    | exact (congrArg Still.errors h :)
    | exact (congrArg Still.causes h :)
    | exact (congrArg Still.policy h :)

/-! ### Frames sent -/

theorem sentFirst_of_prefix {f : Sent} (h : s.sent ++ [f] <+: t.sent) : sentFirst f s t := by
  obtain ⟨fs, h⟩ := h
  exact ⟨fs, by rw [← h, List.append_assoc]; rfl⟩

theorem sentAmong_of_prefix {f : Sent} (h : s.sent <+: t.sent) (k : t.sent ++ [f] <+: u.sent) :
    sentAmong f s u := by
  obtain ⟨fs, h⟩ := h
  obtain ⟨gs, k⟩ := k
  exact ⟨fs ++ f :: gs, by rw [← k, ← h]; simp, by simp⟩

theorem sentAmong_after {f : Sent} (h : s.sent <+: t.sent) (k : sentAmong f t u) : sentAmong f s u := by
  obtain ⟨fs, h⟩ := h
  obtain ⟨gs, k, hf⟩ := k
  exact ⟨fs ++ gs, by rw [k, ← h, List.append_assoc], List.mem_append_right _ hf⟩

theorem sentAmong_before {f : Sent} (h : sentAmong f s t) (k : t.sent <+: u.sent) : sentAmong f s u := by
  obtain ⟨fs, h, hf⟩ := h
  obtain ⟨gs, k⟩ := k
  exact ⟨fs ++ gs, by rw [← k, h, List.append_assoc], List.mem_append_left _ hf⟩

/-! ### The end of a job -/

/-- The origin of a job that ends is told its outcome (R44, R66). -/
theorem endJob_told {n : Nat} {j : Job} {frame : Option Lifecycle} {f : Lifecycle}
    (hj : s.job? n = some j) (ho : j.outcome frame = some f) : toldOrigin n j f s (s.endJob n frame) := by
  intro og hog
  refine sentAmong_of_prefix (t := s) List.prefix_rfl ?_
  rw [← sendLifecycle_told s f hj hog]
  have := (endJob_loose_from s frame hj).sent
  rwa [outcomeSent, ho] at this

/-- A job without an arm gives none back. -/
theorem endJob_noArm {n : Nat} {j : Job} (frame : Option Lifecycle) (h : s.job? n = some j)
    (ha : j.arm = none) : s.endJob n frame =
      endRaised (struckOff (leaving s n j frame) n) (leaving s n j frame) j frame := by
  rw [endJob_eq s frame h, armGivenBack, ha]

/-- Steps that log no error change the blocks of the aftermath and the accounts. -/
theorem unchangedBut_of_slight (h : Slight 0 s t) : unchangedBut (aftermath ++ [.accounting]) s t := by
  obtain ⟨es, he, log⟩ := h.errors
  obtain rfl := List.length_eq_zero_iff.mp (Nat.le_zero.mp he)
  refine ⟨fun b hb => ?_, (unchangedBut_of_quiet h.quiet).2⟩
  by_cases e : b = .errors
  · subst e; exact log
  · refine (unchangedBut_of_quiet h.quiet).1 b fun hm => ?_
    simp only [List.mem_append, List.mem_cons, List.not_mem_nil, or_false] at hm hb
    tauto

/-! ### Drives that no creation names -/

/-- A drive that no creation names keeps its job. -/
theorem DriveCalm.job_kept {o : Prop} {e e' : Drive} (h : DriveCalm o e e') (hc : e.state ≠ .cleanDue)
    (hp : e.state ≠ .awaitingPull) : e'.job = e.job :=
  h.job.resolve_right fun ⟨_, w⟩ => w.elim hc fun k => hp k.1

/-- An emptied drive that neither drains nor is due a cleaning is EMPTY (R33, R37). -/
theorem emptyDrive_eq {d : DriveId} (hd : (s.drive d).draining = false) (hn : notDue (s.drive d)) :
    s.emptyDrive d = (s.updateDrive d fun e => { e with lastMountKind := none }).updateDrive d fun e =>
      { e with state := .empty } := by
  have due : (s.drive d).cleaningDue = false := by
    rcases hn with h | h
    · simp [Drive.cleaningDue, h]
    · simp [Drive.cleaningDue, Nat.not_le.mpr h]
  let u := s.updateDrive d fun e => { e with lastMountKind := none }
  have entry : u.drive d = { s.drive d with lastMountKind := none } := updateDrive_drive _ _ _
  have draining : (u.drive d).draining = false := by rw [entry]; exact hd
  have clean : (u.drive d).cleaningDue = false := by rw [entry]; exact due
  change (if (u.drive d).draining then _ else if (u.drive d).cleaningDue then _ else _) = _
  rw [draining, clean, if_neg Bool.false_ne_true, if_neg Bool.false_ne_true]

theorem emptyDrive_drive {d : DriveId} (hd : (s.drive d).draining = false) (hn : notDue (s.drive d)) :
    (s.emptyDrive d).drive d = { s.drive d with lastMountKind := none, state := .empty } := by
  rw [emptyDrive_eq hd hn, updateDrive_drive, updateDrive_drive]

/-! ### Bays -/

/-- With the bays as they were none has become free. -/
theorem freed_none (h : t.station = s.station) : t.freedRings s = [] ∧ t.freedHatches s = [] := by
  simp only [State.freedRings, State.freedHatches, h, List.filter_eq_nil_iff]
  exact ⟨fun b _ => by simp, fun b _ => by simp⟩

/-! ### Open prompts -/

theorem asks_of_prompted {m : Nat} {k : PromptKind} {o : Owner} (h : prompted s m = some (k, o)) :
    asks s k o := by
  obtain ⟨p, hp, e⟩ := Option.map_eq_some_iff.mp h
  obtain ⟨rfl, rfl⟩ := Prod.mk.inj e
  exact ⟨p, List.mem_of_find?_eq_some hp, rfl, rfl⟩

/-! ### A desk with room (R113) -/

theorem Settled.desk_open (h : Settled s t) (ho : deskOpen s) : deskOpen t :=
  ⟨by rw [h.length]; exact ho.1, by rw [h.owed]; exact ho.2⟩

/-- Closing a prompt leaves room on a desk that has it, and posts none that was owed. -/
theorem closePrompt_open (n : Nat) (why : RemoveReason) (h : deskOpen s) : deskOpen (s.closePrompt n why) := by
  have removed : ∀ (l : List Console) (u : State), deskOpen u → deskOpen (l.foldl (State.sendRemove n why) u) := by
    intro l
    induction l with
    | nil => exact fun _ h => h
    | cons c rest ih => exact fun u h => ih _ ((sendRemove_settled u n why c).desk_open h)
  have left : deskOpen (delisted (allConsoles.foldl (State.sendRemove n why) s) n) := by
    have h := removed allConsoles s h
    exact ⟨(List.length_filter_le _ _).trans_lt h.1, h.2⟩
  rw [closePrompt_eq, postOwed_none _ left.2]
  exact (settleBoth_settled _).desk_open left

theorem withdrawJobPrompt_open (n : Nat) (k : PromptKind → Bool) (h : deskOpen s) :
    deskOpen (s.withdrawJobPrompt n k) := by
  have dropped (u : State) (o : Owner) (q : PromptKind → Bool) (h : deskOpen u) : deskOpen (u.dropOwed o q) :=
    ⟨h.1, by simp [State.dropOwed, h.2]⟩
  unfold State.withdrawJobPrompt
  split
  · dsimp only
    refine dropped _ _ _ ?_
    split
    · unfold State.withdraw
      split
      · split
        · exact closePrompt_open _ _ h
        · exact h
      · exact h
    · exact h
  · exact h

/-- On a desk with room a job's posting opens its prompt at once (R113). -/
theorem postForJob_prompted {n : Nat} {j : Job} (k : PromptKind) (p : PromptParams) (h : deskOpen s)
    (hj : s.job? n = some j) : ∃ m, prompted (s.postForJob n k p) m = some (k, .job (j.ref n)) := by
  have room : (readied s (.job (j.ref n)) k).desk.prompts.length < 32 := by
    unfold readied
    dsimp only
    split
    · exact (withdrawJobPrompt_open _ _ h).1
    · exact h.1
  unfold State.postForJob
  rw [hj]
  dsimp only
  rw [post_eq, if_pos room]
  exact postNow_prompted _ _ room

/-! ### The tag of an order (R71) -/

/-- At most three tags are passed over. -/
theorem tagTaken_three (s : State) (x : ArmId) :
    ∃ a b c : Nat, ∀ t, s.tagTaken x t = true → t = a ∨ t = b ∨ t = c := by
  refine ⟨((s.arm (otherArm x)).inFlight.map InFlight.tag).getD 0, (s.arm .a).lastTimedOut.getD 0,
    (s.arm .b).lastTimedOut.getD 0, fun t ht => ?_⟩
  simp only [State.tagTaken, Bool.or_eq_true, decide_eq_true_eq] at ht
  rcases ht with (h | h) | h
  · split at h
    · next f hf =>
      simp only [decide_eq_true_eq] at h
      simp [hf, h]
    · simp at h
  · simp [h]
  · simp [h]

/-- The tag an order takes is none that is passed over. -/
theorem freeTag_free (s : State) (x : ArmId) : s.tagTaken x (s.freeTag x) = false := by
  have run (fuel : Nat) : ∀ n, s.tagTaken x (s.freeTagFrom x fuel n) = true →
      ∀ i ≤ fuel, s.tagTaken x ((fun m => (m + 1) % 16)^[i] n) = true := by
    induction fuel with
    | zero =>
      intro n h i hi
      obtain rfl := Nat.le_zero.mp hi
      exact h
    | succ fuel ih =>
      intro n h i hi
      unfold State.freeTagFrom at h
      split at h
      · next hn =>
        cases i with
        | zero => exact hn
        | succ i => exact ih _ h i (by omega)
      · next hn => exact absurd h hn
  by_contra hne
  have last : s.tagTaken x (s.freeTag x) = true := by simpa using hne
  have taken := run 15 s.arms.tagCounter last
  obtain ⟨a, b, c, three⟩ := tagTaken_three s x
  have h0 := three _ (taken 0 (by omega))
  have h1 := three _ (taken 1 (by omega))
  have h2 := three _ (taken 2 (by omega))
  have h3 := three _ (taken 3 (by omega))
  simp only [Function.iterate_succ, Function.iterate_zero, Function.comp_apply, id] at h0 h1 h2 h3
  omega

/-- No order takes the tag that last timed out on its arm. -/
theorem freeTag_ne_timedOut {x : ArmId} {tag : Nat} (h : (s.arm x).lastTimedOut = some tag) :
    s.freeTag x ≠ tag := by
  rintro rfl
  have := freeTag_free s x
  simp only [State.tagTaken, Bool.or_eq_false_iff, decide_eq_false_iff_not] at this
  cases x
  · exact this.1.2 h
  · exact this.2 h

end Sys2Proof.DriveString
end

section
/-!
O52: the expiry of an order's supervision, of a load and of a cleaning (R26, R38, R71, R72, R85, R87).
-/

namespace Sys2Proof.DriveString

open Machine

variable {s t : State}

theorem exec_motionTimeout {x : ArmId} {f : InFlight} (h : (s.arm x).inFlight = some f)
    (hr : (s.arm x).supervision.isRunning = true) :
    exec (.motionTimeout x) s = .next (State.finish s (s.motionExpired x f.tag f.order)) := by
  change execMotionTimeout x s = _
  simp only [execMotionTimeout, h, hr, if_true]

theorem exec_motionTimeout_stopped {x : ArmId} (h : (s.arm x).supervision.isRunning = false) :
    exec (.motionTimeout x) s = .next s := by
  change execMotionTimeout x s = _
  unfold execMotionTimeout
  split
  · simp only [h, Bool.false_eq_true, if_false]
  · rfl

/-- The state in which an order has been abandoned: its tag is remembered and its position not known (R72). -/
def abandoned (s : State) (x : ArmId) (tag : Nat) (o : Order) : State :=
  (s.logError .motionTimeout .library
    { arm := some x, tag := some tag, detail := some (.order o.kind) }).updateArm x fun a =>
      { a with lastTimedOut := some tag, inFlight := none, position := none, supervision := .stopped }

theorem abandoned_arm (x : ArmId) (tag : Nat) (o : Order) : (abandoned s x tag o).arm x =
    { s.arm x with lastTimedOut := some tag, inFlight := none, position := none, supervision := .stopped } := by
  rw [abandoned, updateArm_arm, logError_same]
  cases x <;> rfl

theorem abandoned_slight (x : ArmId) (tag : Nat) (o : Order) :
    Slight 0 (s.logError .motionTimeout .library
      { arm := some x, tag := some tag, detail := some (.order o.kind) }) (abandoned s x tag o) :=
  updateArm_slight _ x _

theorem abandoned_mode (x : ArmId) (tag : Nat) (o : Order) : (abandoned s x tag o).mode = s.mode := by
  rw [abandoned, State.mode, updateArm_control, logError_same]
  rfl

/-- A HOME that is sent becomes the arm's order in flight (R71, R72). -/
theorem sendOrder_arm_home {x : ArmId} (h : (s.arm x).nextOrder = none) :
    (s.sendOrder x .home).arm x = { s.arm x with
      inFlight := some { tag := s.freeTag x, order := .home }, nextOrder := none, homeDue := false
      supervision := .running (s.policy.supervisionTicks true) } := by
  cases x <;>
  · simp only [State.arm] at h
    simp [State.sendOrder, State.updateArm, State.setArm, State.arm, State.emit, h]

/-- An arm that rehomes is sent its HOME where HOME orders may be sent (R71, R85). -/
theorem rehome_arm {x : ArmId} (hf : (s.arm x).inFlight = none) (hc : s.mode ≠ .configure)
    (hs : s.mode.isSafe = false) : ∃ (u : State) (k : Timer),
      (u.arm x).lastTimedOut = (s.arm x).lastTimedOut ∧ (s.rehome x false).arm x = { s.arm x with
        state := .rehoming false, claim := (s.arm x).extendedClaim x, nextOrder := none
        inFlight := some { tag := u.freeTag x, order := .home }, homeDue := false, supervision := k } := by
  let v := (s.updateArm x fun a =>
    { a with state := .rehoming false, claim := a.extendedClaim x, nextOrder := none }).evalArmState
  have arm : v.arm x = { s.arm x with
      state := .rehoming false, claim := (s.arm x).extendedClaim x, nextOrder := none } := by
    simp only [v, State.evalArmState]
    rw [setLevel_same]
    cases x <;> rfl
  have mode : v.mode = s.mode := by
    simp only [v, State.evalArmState, State.mode]
    rw [setLevel_same]
    cases x <;> rfl
  have sent : s.rehome x false = v.sendOrder x .home := by
    change v.dispatch x .home = _
    unfold State.dispatch State.maySend
    rw [if_pos]
    simp only [arm, hf, mode, hs]
    simp [hc]
  refine ⟨v, .running (v.policy.supervisionTicks true), by rw [arm], ?_⟩
  rw [sent, sendOrder_arm_home (by rw [arm]), arm]

theorem rehome_still (x : ArmId) (b : Bool) : (s.rehome x b).still = s.still := by
  simp [State.rehome]

/-- Logging an error changes the error log and the notices alone. -/
theorem unchangedBut_logError (k : ErrorKind) (c : ErrorSeverity) (f : ErrorFields) :
    unchangedBut [.errors, .notices] s (s.logError k c f) := by
  rw [logError_same]
  refine ⟨fun b hb => ?_, rfl, rfl⟩
  cases b <;> first
    | exact absurd (by decide) hb
    | rfl

/-- An error logged, then steps that leave the still parts. -/
theorem unchangedBut_of_logged {k : ErrorKind} {c : ErrorSeverity} {f : ErrorFields}
    (h : t.still = (s.logError k c f).still) : unchangedBut (aftermath ++ [.errors]) s t :=
  unchangedBut_trans (unchangedBut_mono (unchangedBut_logError k c f) (by decide))
    (unchangedBut_mono (unchangedBut_of_still h) (by decide))

theorem logged_of_still {k : ErrorKind} {c : ErrorSeverity} {f : ErrorFields}
    (h : t.still = (s.logError k c f).still) : logged k c s t := by
  have e : t.errors = (s.logError k c f).errors := congrArg Still.errors h
  exact logged_of_grew (f := f) (by rw [e]; exact .refl 15 _)

theorem abandoned_still (x : ArmId) (tag : Nat) (o : Order) : (abandoned s x tag o).still =
    (s.logError .motionTimeout .library { arm := some x, tag := some tag, detail := some (.order o.kind) }).still :=
  updateArm_still _ _ _

/-- After its order was abandoned the arm rehomes, the order kept as interrupted (R72, R85). -/
theorem motionExpired_moves {x : ArmId} {tag : Nat} {o : Order} (hs : (s.arm x).state = .moving)
    (ho : o ≠ .home) (hy : o.isYield = false) : s.motionExpired x tag o =
      ((abandoned s x tag o).updateArm x fun a =>
        { a with interrupted := some { order := o, how := .faulted } }).rehome x false := by
  have moving : (((abandoned s x tag o).interrupt x o .faulted).arm x).state = .moving := by
    rw [State.interrupt, hy, if_neg Bool.false_ne_true, updateArm_arm, abandoned_arm]
    exact hs
  change (if o = .home then _ else (abandoned s x tag o).rehomeAfter x o) = _
  rw [if_neg ho, State.rehomeAfter, moving, if_neg (by simp), State.interrupt, hy, if_neg Bool.false_ne_true]

/-- A timeout of a HOME disables the arm, both errors logged (R87). -/
theorem motionExpired_home (x : ArmId) (tag : Nat) : s.motionExpired x tag .home =
    ((abandoned s x tag .home).logError .rehomeTimeout .library
      { arm := some x, tag := some tag }).disable x := rfl

theorem motionTimeout_rehomes {x : ArmId} {tag : Nat} {o : Order}
    (hf : (s.arm x).inFlight = some { tag := tag, order := o })
    (hr : (s.arm x).supervision.isRunning = true) (hs : (s.arm x).state = .moving)
    (hc : s.mode ≠ .configure) (hd : s.mode.isSafe = false) (ho : o ≠ .home) (hy : o.isYield = false) :
    ∃ t next, exec (.motionTimeout x) s = .next t ∧
      (t.arm x).lastTimedOut = some tag ∧ (t.arm x).position = none ∧
      (t.arm x).state = .rehoming false ∧
      (t.arm x).interrupted = some { order := o, how := .faulted } ∧
      (t.arm x).inFlight = some { tag := next, order := .home } ∧ next ≠ tag ∧
      logged .motionTimeout .library s t ∧ unchangedBut (aftermath ++ [.errors]) s t := by
  let w := (abandoned s x tag o).updateArm x fun a =>
    { a with interrupted := some { order := o, how := .faulted } }
  have arm : w.arm x = { s.arm x with
      lastTimedOut := some tag, inFlight := none, position := none, supervision := .stopped
      interrupted := some { order := o, how := .faulted } } := by
    rw [updateArm_arm, abandoned_arm]
  have mode : w.mode = s.mode := by rw [State.mode, updateArm_control]; exact abandoned_mode x tag o
  obtain ⟨u, k, hu, rehomed⟩ := rehome_arm (s := w) (x := x) (by rw [arm]) (by rwa [mode]) (by rwa [mode])
  have still : (State.finish s (w.rehome x false)).still = _ :=
    (finish_still _ s).trans ((rehome_still x false).trans ((updateArm_still _ x _).trans (abandoned_still x tag o)))
  have rests : Resting ((w.rehome x false).arm x) := by rw [rehomed]; simp [Resting]
  have kept := ((finish_calm_any (w.rehome x false) s).arm x).rest rests
  rw [rehomed, arm] at kept
  have next := freeTag_ne_timedOut (s := u) (x := x) (tag := tag) (by rw [hu, arm])
  refine ⟨_, u.freeTag x, by rw [exec_motionTimeout hf hr, motionExpired_moves hs ho hy],
    (congrArg Arm.lastTimedOut kept :), (congrArg Arm.position kept :), (congrArg Arm.state kept :),
    (congrArg Arm.interrupted kept :), (congrArg Arm.inFlight kept :), next, logged_of_still still,
    unchangedBut_of_logged still⟩

/-- What a disabled arm keeps through what happens to its job and what follows the event (R87). -/
theorem disabled_arm {x : ArmId} (h : Loose 1 (s.disableCore x) t) :
    offDuty (t.arm x) = offDuty { s.arm x with
      state := .disabled, claim := (s.arm x).disabledClaim x, interrupted := none, nextOrder := none
      supervision := .stopped } := by
  have core := disableCore_arm s x
  have rests : Resting ((s.disableCore x).arm x) := by
    refine ⟨(congrArg Arm.nextOrder core :), ?_⟩
    rw [show ((s.disableCore x).arm x).state = .disabled from (congrArg Arm.state core :)]
    simp
  exact (h.arm x rests).trans (congrArg offDuty core :)

theorem motionTimeout_disables {x : ArmId} {tag : Nat}
    (hf : (s.arm x).inFlight = some { tag := tag, order := .home })
    (hr : (s.arm x).supervision.isRunning = true) :
    ∃ t, exec (.motionTimeout x) s = .next t ∧ (t.arm x).state = .disabled ∧
      (t.arm x).lastTimedOut = some tag ∧ (t.arm x).inFlight = none ∧
      logged .motionTimeout .library s t ∧
      (s.desk.prompts.length < 32 → asks t .armFault (.arm x)) ∧
      unchangedBut (aftermath ++ [.errors, .accounting]) s t := by
  let v := (abandoned s x tag .home).logError .rehomeTimeout .library { arm := some x, tag := some tag }
  have arm : v.arm x = { s.arm x with
      lastTimedOut := some tag, inFlight := none, position := none, supervision := .stopped } := by
    rw [← abandoned_arm x tag .home]
    simp only [v]
    rw [logError_same]
    cases x <;> rfl
  have desk : v.desk = s.desk := by
    simp only [v, abandoned]
    rw [logError_same, logError_same]
    cases x <;> rfl
  have logs := (logError_loose s .motionTimeout .library
    { arm := some x, tag := some tag, detail := some (.order (Order.kind .home)) }).toSlight
  have settled : Loose 1 (v.disableCore x) (State.finish s (v.disable x)) :=
    .trans (k := 1) (m := 0) (disable_loose v x) (finish_calm_any _ s).loose
  have later : Slight 3 (s.logError .motionTimeout .library
      { arm := some x, tag := some tag, detail := some (.order (Order.kind .home)) })
      (State.finish s (v.disable x)) := by
    refine .trans (k := 2) (m := 1) ?_ settled.toSlight
    refine .trans (k := 1) (m := 1) ?_ (disableCore_slight v x)
    exact .trans (k := 0) (m := 1) (abandoned_slight x tag .home) (logError_loose _ _ _ _).toSlight
  have kept := disabled_arm settled
  rw [arm] at kept
  refine ⟨_, by rw [exec_motionTimeout hf hr, motionExpired_home], (congrArg Arm.state kept :),
    (congrArg Arm.lastTimedOut kept :), (congrArg Arm.inFlight kept :),
    logged_of_grew (later.errors.mono (by omega)), fun h => ?_,
    unchangedBut_of_quiet (logs.trans later).quiet⟩
  obtain ⟨m, hm⟩ := disableCore_prompted v x (by rwa [desk])
  exact asks_of_prompted (settled.prompt m _ x hm)

/-! ### The load and cleaning timers (R26, R38) -/

theorem exec_loadTimeout {d : DriveId} {n : Nat} {j : Job} (hs : (s.drive d).state = .loading)
    (hr : (s.drive d).loadTimer.isRunning = true) (hn : (s.drive d).job = some n) (hj : s.job? n = some j) :
    exec (.loadTimeout d) s = .next (State.finish s (s.loadExpired d n j)) := by
  change execLoadTimeout d s = _
  simp [execLoadTimeout, hs, hr, hn, hj]

theorem exec_loadTimeout_stopped {d : DriveId} (h : (s.drive d).loadTimer.isRunning = false) :
    exec (.loadTimeout d) s = .next s := by
  change execLoadTimeout d s = _
  simp [execLoadTimeout, h]

theorem exec_cleanTimeout_stopped {d : DriveId} (h : (s.drive d).cleaningTimer.isRunning = false) :
    exec (.cleanTimeout d) s = .next s := by
  change execCleanTimeout d s = _
  simp [execCleanTimeout, h]

/-- A job leaves a drive that went to SERVICE: the drive stands so to the end of the event (R33). -/
theorem serviced_drive {d : DriveId} {k : Nat} (h : Loose k (s.enterService d) t) :
    (t.drive d).state = .service ∧ (t.drive d).loadTimer = .stopped ∧
      (t.drive d).cleaningTimer = .stopped ∧ (t.drive d).job = none := by
  have e := enterService_drive s d
  have out : OutOfUse ((s.enterService d).drive d) := ⟨(congrArg Drive.job e :), (congrArg Drive.state e :)⟩
  have calm := h.drive d out
  refine ⟨calm.state.trans out.2, (congrArg Drive.loadTimer calm.same :).trans (congrArg Drive.loadTimer e :),
    (calm.timer (by rw [out.2]; simp)).trans (congrArg Drive.cleaningTimer e :), ?_⟩
  rcases calm.job with j | ⟨-, w | ⟨w, -⟩⟩
  · exact j.trans out.1
  · rw [out.2] at w; simp at w
  · rw [out.2] at w; simp at w

theorem handMount_false {j : Job} (h : j.mountKind = .robot ∨ j.mountKind = .ring) : j.handMount = false := by
  rcases h with h | h <;> simp [Job.handMount, h]

theorem handMount_true {j : Job} (h : j.mountKind = .manual ∨ j.mountKind = .foreign) : j.handMount = true := by
  rcases h with h | h <;> simp [Job.handMount, h]

/-- A drive's going to SERVICE leaves the jobs, their prompts apart. -/
theorem enterService_job {n : Nat} {j : Job} (d : DriveId) (h : s.job? n = some j) :
    ∃ p, (s.enterService d).job? n = some { j with prompt := p } := by
  refine (postService_asked _ d).job_some ?_
  rw [State.evalDriveService, setLevel_same]
  exact h

theorem toldOrigin_between {n : Nat} {j : Job} {f : Lifecycle} {u w : State} (h : s.sent <+: t.sent)
    (k : toldOrigin n j f t u) (i : u.sent <+: w.sent) : toldOrigin n j f s w :=
  fun og ho => sentAmong_before (sentAmong_after h (k og ho)) i

/-- A mount by robot that was not loaded in time fails, and its drive goes to SERVICE (R26). -/
theorem loadTimeout_robot {d : DriveId} {n : Nat} {j : Job} (hj : s.job? n = some j) (hh : j.handMount = false) :
    let t := State.finish s (s.loadExpired d n j)
    ((t.drive d).state = .service ∧ (t.drive d).loadTimer = .stopped ∧ (t.drive d).job = none) ∧
      (j.cancelled = false → toldOrigin n j (.mountFailed .loadTimeout) s t) ∧
      Slight 1 (s.logError .loadTimeout .job { drive := some d, job := some n }) t := by
  let v := s.logError .loadTimeout .job { drive := some d, job := some n }
  have expired : s.loadExpired d n j = (v.enterService d).endJob n (some (.mountFailed .loadTimeout)) := by
    simp only [State.loadExpired, hh, Bool.false_eq_true, if_false, v]
  rw [expired]
  intro t
  have ends : Loose 1 (v.enterService d) t :=
    .trans (k := 1) (m := 0) (endJob_loose _ n _) (finish_calm_any _ s).loose
  have out := serviced_drive ends
  refine ⟨⟨out.1, out.2.1, out.2.2.2⟩, fun hc => ?_, .trans (k := 0) (m := 1) (enterService_slight v d) ends.toSlight⟩
  have hv : v.job? n = some j := by simp only [v]; rw [logError_same]; exact hj
  obtain ⟨p, hp⟩ := enterService_job d hv
  have told := endJob_told (frame := some (.mountFailed .loadTimeout)) hp (outcome_given _ hc)
  refine toldOrigin_between (j := { j with prompt := p }) ?_ told (finish_calm_any _ s).sent
  exact (logError_sent s _ _ _).trans (enterService_slight v d).sent

/-- A mount by hand that was not loaded in time is put to the operators again (R62). -/
theorem loadTimeout_hand {d : DriveId} {n : Nat} {j : Job} (hs : (s.drive d).state = .loading)
    (hj : s.job? n = some j) (hh : j.handMount = true) :
    let t := State.finish s (s.loadExpired d n j)
    ((t.drive d).state = .loading ∧ (t.drive d).loadTimer = .stopped) ∧
      (∃ j', t.job? n = some j' ∧ j'.state = .manual) ∧
      (deskOpen s → asks t .mountByHand (.job (j.ref n))) ∧
      Slight 1 (s.logError .loadTimeout .job { drive := some d, job := some n }) t := by
  let v := s.logError .loadTimeout .job { drive := some d, job := some n }
  let w := (v.updateDrive d fun e => { e with loadTimer := .stopped }).setJobState n .manual
  have desk : w.desk = s.desk := by
    simp only [w, v]
    rw [logError_same]
    rfl
  have station : w.station = s.station := by
    simp only [w, v]
    rw [logError_same]
    rfl
  have drive : w.drive d = { s.drive d with loadTimer := .stopped } := by
    simp only [w, v]
    rw [logError_same]
    exact updateDrive_drive _ _ _
  have job : w.job? n = some { j with state := .manual, aging := .stopped } := by
    have h := updateJob_job (s := v.updateDrive d fun e => { e with loadTimer := .stopped }) n fun j =>
      { j with state := .manual, aging := .stopped }
    have hv : v.job? n = some j := by simp only [v]; rw [logError_same]; exact hj
    exact h.trans (congrArg (Option.map _) hv)
  let params : PromptParams := { serial := j.serial, drive := some d, intent := some j.intent }
  have expired : s.loadExpired d n j = w.postForJob n .mountByHand params := by
    simp only [State.loadExpired, hh, if_true]
    rfl
  rw [expired]
  intro t
  have posted := postForJob_asked w n .mountByHand params
  obtain ⟨p, hp⟩ := posted.job_some job
  have calm : Calm NoJob True True (w.postForJob n .mountByHand params) t :=
    finish_calm _ s (fun k => absurd trivial k) (.inr (freed_none (posted.station.trans station)))
  have after := calm.drive d
  have driven := posted.drive d
  rw [drive] at driven
  obtain ⟨j', hj', c⟩ := calm.job n _ (fun k => k) hp
  refine ⟨⟨after.state.trans ((congrArg Drive.state driven :).trans hs),
    (congrArg Drive.loadTimer after.same :).trans (congrArg Drive.loadTimer driven :)⟩,
    ⟨j', hj', (congrArg Job.state (c.steady trivial) :)⟩, fun h => ?_, ?_⟩
  · obtain ⟨m, hm⟩ := postForJob_prompted .mountByHand params (by rwa [deskOpen, desk]) job
    refine asks_of_prompted (calm.prompt m _ hm fun r hr => ⟨id, ?_⟩)
    obtain rfl := Owner.job.inj hr
    exact ⟨_, hp, trivial⟩
  · refine .trans (k := 0) (m := 1) ?_ (calm.loose.toSlight.mono (Nat.zero_le 1))
    refine .trans (k := 0) (m := 0) ?_ (postForJob_loose w n _ _).toSlight
    exact .trans (k := 0) (m := 0) (updateDrive_slight v d _) (setJobState_loose _ n _).toSlight

/-- A cleaning that was not done in time ends, and its drive goes to SERVICE (R38). -/
theorem cleanTimeout_services {d : DriveId} (hs : (s.drive d).state = .cleaning)
    (hr : (s.drive d).cleaningTimer.isRunning = true) :
    ∃ t, exec (.cleanTimeout d) s = .next t ∧ logged .cleanTimeout .job s t ∧
      (t.drive d).state = .service ∧ (t.drive d).cleaningTimer = .stopped ∧
      (t.drive d).job = none ∧ unchangedBut (aftermath ++ [.errors, .accounting]) s t := by
  let v := s.logError .cleanTimeout .job
    { drive := some d, job := (s.drive d).job, volume := s.locatedAt (.drive d) }
  let ended := match (s.drive d).job with
    | some n => (v.enterService d).endJob n none
    | none => v.enterService d
  have answer : exec (.cleanTimeout d) s = .next (State.finish s ended) := by
    change execCleanTimeout d s = _
    simp only [execCleanTimeout, hs, hr, decide_true, Bool.and_self, if_true]
    rfl
  have ends : Loose 1 (v.enterService d) (State.finish s ended) := by
    refine .trans (k := 1) (m := 0) ?_ (finish_calm_any _ s).loose
    simp only [ended]
    split
    · exact endJob_loose _ _ _
    · exact .refl _
  have later : Slight 1 v (State.finish s ended) :=
    .trans (k := 0) (m := 1) (enterService_slight v d) ends.toSlight
  have out := serviced_drive ends
  exact ⟨_, answer, logged_of_grew (later.errors.mono (by omega)), out.1, out.2.2.1, out.2.2.2,
    unchangedBut_of_quiet ((logError_loose s _ _ _).toSlight.trans later).quiet⟩

/-- Settles O52: each expiry is followed from what it does at once to the end of the event. -/
theorem supervisionExpires : Obligations.SupervisionExpires := by
  intro s
  refine ⟨fun x tag o hf hr hs hc hd ho hy => motionTimeout_rehomes hf hr hs hc hd ho hy,
    fun x tag hf hr => motionTimeout_disables hf hr, fun d n j hs hr hn hj hk => ?_,
    fun d hs hr => cleanTimeout_services hs hr, fun x h => exec_motionTimeout_stopped h,
    fun d => ⟨exec_loadTimeout_stopped, exec_cleanTimeout_stopped⟩⟩
  have logs := (logError_loose s .loadTimeout .job { drive := some d, job := some n }).toSlight
  by_cases hh : j.handMount = true
  · obtain ⟨⟨state, timer⟩, job, asked, later⟩ := loadTimeout_hand hs hj hh
    refine ⟨_, exec_loadTimeout hs hr hn hj, logged_of_grew (later.errors.mono (by omega)), timer,
      fun h => ?_, fun _ => ⟨state, job, asked⟩, unchangedBut_of_quiet (logs.trans later).quiet⟩
    rw [handMount_false h] at hh
    simp at hh
  · have hh : j.handMount = false := by simpa using hh
    obtain ⟨⟨state, timer, job⟩, told, later⟩ := loadTimeout_robot (d := d) hj hh
    refine ⟨_, exec_loadTimeout hs hr hn hj, logged_of_grew (later.errors.mono (by omega)), timer,
      fun _ => ⟨state, job, told⟩, fun h => ?_, unchangedBut_of_quiet (logs.trans later).quiet⟩
    rw [handMount_true h] at hh
    simp at hh

end Sys2Proof.DriveString
end

section
/-!
O20: a CANCEL of a waiting MOUNT (R25, R37, R44, R63, R64, R66, R186).
-/

namespace Sys2Proof.DriveString

open Machine

variable {s t : State}

theorem unburdened_drive (n : Nat) (d : DriveId) :
    unaskedDrive ((unburdened s n).drive d) = unaskedDrive (s.drive d) := by
  have e := (withdrawJobPrompt_asked s n fun _ => true).drive d
  rw [unburdened, giveBackBays_same]
  exact e

/-- A RESERVED drive whose job ends is emptied (R25). -/
theorem driveJobEnded_reserved {n : Nat} {d : DriveId} (hs : (s.drive d).state = .reserved)
    (hn : (s.drive d).job = some n) (hd : (s.drive d).draining = false) (hc : notDue (s.drive d)) :
    (s.driveJobEnded n d).drive d =
      { s.drive d with job := none, lastMountKind := none, state := .empty } := by
  have entry : (s.updateDrive d fun e => { e with job := none }).drive d = { s.drive d with job := none } :=
    updateDrive_drive _ _ _
  unfold State.driveJobEnded
  rw [if_pos hn]
  dsimp only
  rw [if_pos hs, emptyDrive_drive (by rw [entry]; exact hd) (by rw [entry]; exact hc), entry]

/-- A leaving job's drive is told of its end, and is else as it was but for its prompts (R44). -/
theorem leaving_drive {n : Nat} {j : Job} {d : DriveId} (frame : Option Lifecycle) (hj : j.drive = some d) :
    ∃ u : State, unaskedDrive (u.drive d) = unaskedDrive (s.drive d) ∧
      (leaving s n j frame).drive d = (u.driveJobEnded n d).drive d := by
  refine ⟨unburdened (outcomeSent s n j frame) n, (unburdened_drive n d).trans ?_, ?_⟩
  · rw [outcomeSent_same]
    rfl
  · rw [leaving, countReturned_same, driveTold, hj]
    rfl

/-- When a job leaves its RESERVED drive is EMPTY with no job (R25, R44). -/
theorem leaving_drive_reserved {n : Nat} {j : Job} {d : DriveId} (frame : Option Lifecycle)
    (hj : j.drive = some d) (hs : (s.drive d).state = .reserved) (hn : (s.drive d).job = some n)
    (hd : (s.drive d).draining = false) (hc : notDue (s.drive d)) :
    ((leaving s n j frame).drive d).state = .empty ∧ ((leaving s n j frame).drive d).job = none := by
  obtain ⟨u, e, told⟩ := leaving_drive (n := n) frame hj
  have state : (u.drive d).state = .reserved := (congrArg Drive.state e :).trans hs
  have job : (u.drive d).job = some n := (congrArg Drive.job e :).trans hn
  have due : notDue (unaskedDrive (u.drive d)) := by rw [e]; exact hc
  rw [told, driveJobEnded_reserved state job ((congrArg Drive.draining e :).trans hd) due]
  exact ⟨rfl, rfl⟩

theorem exec_cancel_byTag {l : Link} {tag t₀ n : Nat} {j : Job} (ht : s.jobByTag l t₀ = some n)
    (hj : s.job? n = some j) (hc : j.cancelled = false) (hl : j.cancelTooLate = false) :
    exec (.cancel l tag (.byTag t₀)) s =
      .next (State.finish s ((s.respond l tag .cancel (.acceptedJob n)).actOnCancel n j)) := by
  change execCancel l tag (.byTag t₀) s = _
  simp [execCancel, State.cancelJob, ht, hj, hc, hl]

/-- A CANCEL of a WAITING MOUNT whose reel is in no ring bay ends it (R64). -/
theorem actOnCancel_waiting {n : Nat} {j : Job} (hk : j.kind = .mount) (hw : j.state = .waiting)
    (hr : j.ringBay = none) : s.actOnCancel n j =
      (s.updateJob n fun j => { j with cancelled := true }).endJob n none := by
  simp [State.actOnCancel, State.reelInRing, hk, hw, hr]

/-- Settles O20: the end of the job empties the drive, and what follows leaves an EMPTY drive as it is. -/
theorem cancelledWhileWaiting : Obligations.CancelledWhileWaiting := by
  intro s l tag t₀ n j d ht hj hk hw ho hc hr ha hb hd hs hn hdr hdue
  let i : Job := { j with cancelled := true }
  have late : j.cancelTooLate = false := by simp [Job.cancelTooLate, hr, hw, hk]
  have answer := exec_cancel_byTag (tag := tag) ht hj hc late
  rw [actOnCancel_waiting hk hw hb] at answer
  generalize hu : s.respond l tag .cancel (.acceptedJob n) = u at answer
  have responded : Slight 0 s u := by subst hu; exact ⟨rfl, .refl 0 _, List.prefix_append _ _⟩
  have first : u.sent = s.sent ++ [response l tag .cancel (.acceptedJob n)] := by subst hu; rfl
  have listed : (u.updateJob n fun j => { j with cancelled := true }).job? n = some i := by
    subst hu; exact (updateJob_job _ n _).trans (congrArg (Option.map _) hj)
  have drive : u.drive d = s.drive d := by subst hu; rfl
  have named : (u.updateJob n fun j => { j with cancelled := true }).drive d = s.drive d := drive
  have slight := (updateJob_loose u n fun j => { j with cancelled := true }).toSlight
  generalize (u.updateJob n fun j => { j with cancelled := true }) = v at *
  have ends := endJob_noArm (none : Option Lifecycle) listed ha
  have after : Slight 0 v (State.finish s (v.endJob n none)) := by
    rw [ends]
    refine .trans (k := 0) (m := 0) ?_ (finish_calm_any _ s).loose.toSlight
    exact .trans (k := 0) (m := 0) (outcomeSent_loose v n i none).toSlight (endRaised_loose_from v none).toSlight
  refine ⟨_, answer, sentFirst_of_prefix (first ▸ slight.sent.trans after.sent), ?_, ?_⟩
  · have cancelled := endJob_told (f := .cancelled) (frame := none) listed rfl
    have := toldOrigin_between (responded.sent.trans slight.sent) cancelled
      (finish_calm_any (v.endJob n none) s).sent _ ho
    rwa [show i.drive = some d from hd] at this
  · obtain ⟨state, job⟩ := leaving_drive_reserved (s := v) (n := n) (j := i) none hd
      (by rwa [named]) (by rwa [named]) (by rwa [named]) (by rwa [named])
    have calm : DriveCalm True ((struckOff (leaving v n i none) n).drive d)
        ((State.finish s (v.endJob n none)).drive d) := by
      rw [ends]
      exact ((endRaised_calm (struckOff (leaving v n i none) n) _ i none).drive d).trans
        ((finish_calm_any _ s).drive d)
    have struck : (struckOff (leaving v n i none) n).drive d = (leaving v n i none).drive d := rfl
    rw [struck] at calm
    refine ⟨calm.state.trans state, (calm.job_kept (by rw [state]; simp) (by rw [state]; simp)).trans job, ?_⟩
    exact unchangedBut_of_slight ((responded.trans slight).trans after)

end Sys2Proof.DriveString
end

section
/-!
O41: a READY completes a mount (R7, R20, R27, R147).
-/

namespace Sys2Proof.DriveString

open Machine

variable {s t : State}

/-! ### Volumes -/

theorem volume_congr (h : t.map = s.map) (v : Nat) : t.volume? v = s.volume? v := by
  simp only [State.volume?, h]

theorem moveVolume_same (v : Nat) (l : Location) : s.moveVolume v l =
    { s with
      map := (s.moveVolume v l).map, errors := (s.moveVolume v l).errors
      notices := (s.moveVolume v l).notices, sent := (s.moveVolume v l).sent } := by
  have displaced : s.displaceFrom v l = { s with
      map := (s.displaceFrom v l).map, errors := (s.displaceFrom v l).errors
      notices := (s.displaceFrom v l).notices, sent := (s.displaceFrom v l).sent } := by
    unfold State.displaceFrom
    split
    · split
      · rw [logError_same]; rfl
      · rfl
    · rfl
  unfold State.moveVolume
  split
  · rw [displaced]; rfl
  · rfl

theorem moveVolume_sent (v : Nat) (l : Location) : s.sent <+: (s.moveVolume v l).sent := by
  have displaced : s.sent <+: (s.displaceFrom v l).sent := by
    unfold State.displaceFrom
    split
    · split
      · exact List.IsPrefix.trans (l₂ := s.sent) List.prefix_rfl (logError_sent (s.updateVolume _ _) _ _ _)
      · exact List.prefix_rfl
    · exact List.prefix_rfl
  unfold State.moveVolume
  split
  · exact displaced
  · exact List.prefix_rfl

theorem unchangedBut_moveVolume (v : Nat) (l : Location) :
    unchangedBut [.map, .errors, .notices] s (s.moveVolume v l) := by
  rw [moveVolume_same]
  refine ⟨fun b hb => ?_, rfl, rfl⟩
  cases b <;> first
    | exact absurd (by decide) hb
    | rfl

theorem claimScratch_same (j : Job) : s.claimScratch j = { s with map := (s.claimScratch j).map } := by
  unfold State.claimScratch
  split <;> rfl

/-- What a scratch mount changes in the map is read from the map alone (R7). -/
theorem claimScratch_map (j : Job) (h : t.map = s.map) : (t.claimScratch j).map = (s.claimScratch j).map := by
  unfold State.claimScratch
  split
  · simp only [State.updateVolume, h]
  · exact h

theorem claimScratch_volume {j : Job} {v : Nat} (h : j.volume = some v) : (s.claimScratch j).volume? v =
    (s.volume? v).map fun e => { e with
      pool := if j.scratch = true then .privatePool else e.pool
      owner := if j.scratch = true then j.account else e.owner } := by
  unfold State.claimScratch
  rw [h]
  cases j.scratch <;> simp

theorem claimScratch_volume_ne {j : Job} {v u : Nat} (h : j.volume = some v) (hu : u ≠ v) :
    (s.claimScratch j).volume? u = s.volume? u := by
  unfold State.claimScratch
  rw [h]
  cases j.scratch
  · rfl
  · exact updateVolume_volume_ne _ _ _ _ hu.symm

/-! ### An occupancy opens (R27) -/

section
variable {d : DriveId} {a : AccountId} {k : MountKind} {v : Option Nat} {og : Option Origin} {we : Bool}

theorem openOccupancy_same : s.openOccupancy d a k v og we = { s with
    map := (s.openOccupancy d a k v og we).map, drives := (s.openOccupancy d a k v og we).drives } := by
  cases v <;> rfl

theorem openOccupancy_drive : (s.openOccupancy d a k v og we).drive d = { s.drive d with
    state := .occupied, occupancy := some (s.newOccupancy a k v og), loadTimer := .stopped
    mountsSinceClean := min 255 ((s.drive d).mountsSinceClean + 1) } := by
  cases v <;> exact updateDrive_drive _ _ _

theorem openOccupancy_volume {u : Nat} (h : v = some u) : (s.openOccupancy d a k v og we).volume? u =
    (s.volume? u).map fun e => { e with
      ring := if we then .ringIn else .ringOut
      mountCount := min 65535 (e.mountCount + 1)
      lastMountDay := some s.clock.day } := by
  subst h; exact updateVolume_volume _ _ _

theorem openOccupancy_volume_ne {u w : Nat} (h : v = some u) (hw : w ≠ u) :
    (s.openOccupancy d a k v og we).volume? w = s.volume? w := by
  subst h; exact updateVolume_volume_ne _ _ _ _ hw.symm

theorem openOccupancy_map_none (h : v = none) : (s.openOccupancy d a k v og we).map = s.map := by
  subst h; rfl

end

/-! ### A READY for a job (R27) -/

theorem newOccupancy_congr (hc : t.clock = s.clock) (ha : t.accounting = s.accounting) (a : AccountId)
    (k : MountKind) (v : Option Nat) (og : Option Origin) : t.newOccupancy a k v og = s.newOccupancy a k v og := by
  simp only [State.newOccupancy, State.stamp, hc, ha]

/-- The occupancy that a READY for a job opens. -/
def opened (s : State) (d : DriveId) (j : Job) (we : Bool) : State :=
  s.openOccupancy d j.account j.mountKind j.volume j.origin we

/-- The state in which an occupancy has been opened for a job and the job marked as mounted. -/
def mountingOf (s : State) (d : DriveId) (n : Nat) (j : Job) (we : Bool) : State :=
  ((opened s d j we).withdrawDriveService d).updateJob n fun j => { j with mounted := true }

/-- What the mounting of a reel for a job leaves of the state it was done in. -/
structure Mounting (s : State) (d : DriveId) (n : Nat) (j : Job) (we : Bool) (u : State) : Prop where
  drive : unaskedDrive (u.drive d) = unaskedDrive ((opened s d j we).drive d)
  job : ∃ p, u.job? n = some { j with mounted := true, prompt := p }
  map : u.map = (opened s d j we).map
  station : u.station = s.station
  sent : s.sent <+: u.sent
  rest : unchangedBut (aftermath ++ [.map, .accounting]) s u

theorem unchangedBut_opened (d : DriveId) (j : Job) (we : Bool) :
    unchangedBut [.map, .drives] s (opened s d j we) := by
  rw [opened, openOccupancy_same]
  refine ⟨fun b hb => ?_, rfl, rfl⟩
  cases b <;> first
    | exact absurd (by decide) hb
    | rfl

theorem mountingOf_mounting {d : DriveId} {n : Nat} {i j : Job} {we : Bool} {p : Option Nat}
    (hj : s.job? n = some i) (hi : i = { j with prompt := p }) : Mounting s d n j we (mountingOf s d n j we) := by
  have withdrawn := withdrawDriveService_asked (opened s d j we) d
  have listed : (opened s d j we).job? n = some i := by rw [opened, openOccupancy_same]; exact hj
  obtain ⟨q, hq⟩ := withdrawn.job_some listed
  exact {
    drive := withdrawn.drive d
    job := ⟨q, by rw [mountingOf, updateJob_job, hq, hi]; rfl⟩
    map := (congrArg Still.map withdrawn.still :)
    station := withdrawn.station.trans (by rw [opened, openOccupancy_same])
    sent := .trans (by rw [opened, openOccupancy_same]) withdrawn.sent
    rest := by
      refine unchangedBut_trans (unchangedBut_mono (unchangedBut_opened d j we) (by decide)) ?_
      refine unchangedBut_mono (unchangedBut_of_still ?_) (by decide)
      exact withdrawn.still }

theorem readyForJob_completes {d : DriveId} {n : Nat} {j : Job} {we : Bool} (hc : j.cancelled = false) :
    s.readyForJob d n j we =
      ((mountingOf s d n j we).endJob n (some (.mountComplete (!we)))).claimScratch j := by
  unfold State.readyForJob
  rw [hc]
  rfl

/-- A job cancelled before its READY: its prompt is withdrawn, it takes its reel home, and it waits for the
drive to be unloaded (R61). -/
def unloadAwaited (s : State) (n : Nat) : State :=
  ((s.withdrawJobPrompt n fun _ => true).updateJob n fun j => { j with returning := true }).setJobState n .unloadWait

theorem readyForJob_rewinds {d : DriveId} {n : Nat} {j : Job} {we : Bool} (hc : j.cancelled = true) :
    s.readyForJob d n j we = (unloadAwaited (mountingOf s d n j we) n).injectRewind d := by
  unfold State.readyForJob
  rw [hc]
  rfl

/-- The entry of a drive after a READY for a job, but for its state, job and prompts. -/
def mountedDrive (s : State) (d : DriveId) (j : Job) : Drive :=
  { s.drive d with
    occupancy := some (s.newOccupancy j.account j.mountKind j.volume j.origin), loadTimer := .stopped
    mountsSinceClean := min 255 ((s.drive d).mountsSinceClean + 1) }

theorem driveJobEnded_occupied {n : Nat} {d : DriveId} (hs : (s.drive d).state = .occupied)
    (hn : (s.drive d).job = some n) : (s.driveJobEnded n d).drive d = { s.drive d with job := none } := by
  simp [State.driveJobEnded, hs, hn]

/-- The drive of a completed mount is OCCUPIED with no job once the job leaves (R27, R44). -/
theorem leaving_drive_occupied {n : Nat} {j : Job} {d : DriveId} (frame : Option Lifecycle)
    (hj : j.drive = some d) (hs : (s.drive d).state = .occupied) (hn : (s.drive d).job = some n) :
    unaskedDrive ((leaving s n j frame).drive d) = unaskedDrive { s.drive d with job := none } := by
  obtain ⟨u, e, told⟩ := leaving_drive (n := n) frame hj
  have state : (u.drive d).state = .occupied := (congrArg Drive.state e :).trans hs
  have job : (u.drive d).job = some n := (congrArg Drive.job e :).trans hn
  rw [told, driveJobEnded_occupied state job]
  exact congrArg (fun e : Drive => { e with job := none }) e

theorem calmDrive_congr {e e' : Drive} (h : unaskedDrive e' = unaskedDrive e) : calmDrive e' = calmDrive e :=
  (congrArg calmDrive h :)

theorem opened_drive (d : DriveId) (j : Job) (we : Bool) :
    (opened s d j we).drive d = { mountedDrive s d j with state := .occupied } := openOccupancy_drive

/-- What a mount that completes leaves to the end of the event (R27, R44). -/
theorem mount_completes {b : State} {d : DriveId} {n : Nat} {i j : Job} {we : Bool} {p : Option Nat}
    (hj : s.job? n = some i) (hi : i = { j with prompt := p }) (hn : (s.drive d).job = some n)
    (hd : j.drive = some d) (ha : j.arm = none) (hc : j.cancelled = false) :
    let t := State.finish b (s.readyForJob d n j we)
    calmDrive (t.drive d) = calmDrive ((opened s d j we).drive d) ∧ (t.drive d).job = none ∧
      toldOrigin n j (.mountComplete (!we)) s t ∧ t.map = ((opened s d j we).claimScratch j).map ∧
      s.sent <+: t.sent ∧ unchangedBut (aftermath ++ [.map, .accounting]) s t := by
  have m : Mounting s d n j we (mountingOf s d n j we) := mountingOf_mounting hj hi
  rw [readyForJob_completes hc]
  generalize mountingOf s d n j we = u at m ⊢
  intro t
  obtain ⟨q, hq⟩ := m.job
  let frame := some (Lifecycle.mountComplete (!we))
  let i' : Job := { j with mounted := true, prompt := q }
  have ends := endJob_noArm frame hq ha
  have ended : Slight 0 u (u.endJob n frame) := by
    rw [ends]
    exact .trans (k := 0) (m := 0) (outcomeSent_loose u n i' frame).toSlight (endRaised_loose_from u frame).toSlight
  have calm : Calm AnyJob True True ((u.endJob n frame).claimScratch j) t := finish_calm_any _ b
  have same : (u.endJob n frame).claimScratch j =
      { u.endJob n frame with map := ((u.endJob n frame).claimScratch j).map } := claimScratch_same j
  have occupied : (u.drive d).state = .occupied := by
    have e := m.drive
    rw [opened_drive] at e
    exact (congrArg Drive.state e :)
  have job : (u.drive d).job = some n := by
    have e := m.drive
    rw [opened_drive] at e
    exact (congrArg Drive.job e :).trans hn
  have left := leaving_drive_occupied (s := u) (j := i') frame hd occupied job
  have after : DriveCalm True ((struckOff (leaving u n i' frame) n).drive d) (t.drive d) := by
    refine .trans ((endRaised_calm (struckOff (leaving u n i' frame) n) (leaving u n i' frame) i' frame).drive d) ?_
    rw [← ends]
    have k := calm.drive d
    rwa [same] at k
  have struck : (struckOff (leaving u n i' frame) n).drive d = (leaving u n i' frame).drive d := rfl
  rw [struck] at after
  have stands : ((leaving u n i' frame).drive d).state = .occupied := (congrArg Drive.state left :).trans occupied
  have sent : (u.endJob n frame).sent <+: t.sent := by
    have k := calm.sent
    rwa [same] at k
  refine ⟨?_, ?_, ?_, ?_, m.sent.trans (ended.sent.trans sent), ?_⟩
  · refine after.same.trans ((calmDrive_congr left).trans ?_)
    exact (congrArg calmDrive m.drive :)
  · exact (after.job_kept (by rw [stands]; simp) (by rw [stands]; simp)).trans (congrArg Drive.job left :)
  · exact toldOrigin_between (j := i') m.sent (endJob_told (frame := frame) hq (outcome_given _ hc)) sent
  · exact calm.map.trans (claimScratch_map j ((congrArg Still.map ended.quiet :).trans m.map))
  · refine unchangedBut_trans m.rest ?_
    refine unchangedBut_trans (unchangedBut_mono (unchangedBut_of_slight ended) (by decide)) ?_
    refine unchangedBut_trans (t := (u.endJob n frame).claimScratch j) ?_
      (unchangedBut_mono (unchangedBut_of_still (finish_still _ b)) (by decide))
    rw [same]
    refine ⟨fun b hb => ?_, rfl, rfl⟩
    cases b <;> first
      | exact absurd (by decide) hb
      | rfl

theorem injectRewind_drive (d : DriveId) : (s.injectRewind d).drive d =
    { s.drive d with state := if (s.drive d).state = .occupied then .unloading else (s.drive d).state } :=
  updateDrive_drive _ _ _

/-- What a mount that was cancelled before its READY leaves to the end of the event (R61). -/
theorem mount_rewinds {b : State} {d : DriveId} {n : Nat} {i j : Job} {we : Bool} {p : Option Nat}
    (hj : s.job? n = some i) (hi : i = { j with prompt := p }) (hn : (s.drive d).job = some n)
    (hb : s.station = b.station) (hc : j.cancelled = true) :
    let t := State.finish b (s.readyForJob d n j we)
    calmDrive (t.drive d) = calmDrive { (opened s d j we).drive d with state := .unloading } ∧
      (t.drive d).job = some n ∧ sentAmong (.string (.rewindUnload d)) s t ∧
      (∃ j', t.job? n = some j' ∧ j'.state = .unloadWait ∧ j'.returning = true) ∧
      t.map = (opened s d j we).map ∧ s.sent <+: t.sent ∧
      unchangedBut (aftermath ++ [.map, .accounting]) s t := by
  have m : Mounting s d n j we (mountingOf s d n j we) := mountingOf_mounting hj hi
  rw [readyForJob_rewinds hc]
  generalize mountingOf s d n j we = u at m ⊢
  intro t
  obtain ⟨q, hq⟩ := m.job
  have withdrawn := withdrawJobPrompt_asked u n fun _ => true
  obtain ⟨r, hr⟩ := withdrawn.job_some hq
  have waits : (unloadAwaited u n).job? n = some { j with
      mounted := true, prompt := r, returning := true, state := .unloadWait, aging := .stopped } := by
    rw [unloadAwaited, State.setJobState, updateJob_job, updateJob_job, hr]
    rfl
  have station : ((unloadAwaited u n).injectRewind d).station = b.station :=
    withdrawn.station.trans (m.station.trans hb)
  have still : ((unloadAwaited u n).injectRewind d).still = u.still := withdrawn.still
  have calm : Calm NoJob True True ((unloadAwaited u n).injectRewind d) t :=
    finish_calm _ b (fun k => absurd trivial k) (.inr (freed_none station))
  have entry : unaskedDrive (((unloadAwaited u n).injectRewind d).drive d) =
      unaskedDrive { (opened s d j we).drive d with state := .unloading } := by
    have e : unaskedDrive ((unloadAwaited u n).drive d) = unaskedDrive ((opened s d j we).drive d) :=
      (withdrawn.drive d).trans m.drive
    have state : ((unloadAwaited u n).drive d).state = .occupied := by
      rw [opened_drive] at e
      exact (congrArg Drive.state e :)
    rw [injectRewind_drive, if_pos state]
    exact congrArg (fun e : Drive => { e with state := .unloading }) e
  have after := calm.drive d
  have unloads : (((unloadAwaited u n).injectRewind d).drive d).state = .unloading := (congrArg Drive.state entry :)
  obtain ⟨j', hj', c⟩ := calm.job n _ id waits
  have steady := c.steady trivial
  have waited : s.sent <+: (unloadAwaited u n).sent := m.sent.trans withdrawn.sent
  have rewound : (unloadAwaited u n).sent ++ [.string (.rewindUnload d)] <+: t.sent := calm.sent
  refine ⟨after.same.trans (calmDrive_congr entry), ?_, sentAmong_of_prefix waited rewound,
    ⟨j', hj', (congrArg Job.state steady :), (congrArg Job.returning steady :)⟩, ?_,
    waited.trans ((List.prefix_append _ _).trans rewound), ?_⟩
  · refine (after.job_kept (by rw [unloads]; simp) (by rw [unloads]; simp)).trans
      ((congrArg Drive.job entry :).trans ?_)
    rw [opened_drive]
    exact hn
  · exact calm.map.trans ((congrArg Still.map still :).trans m.map)
  · exact unchangedBut_trans m.rest (unchangedBut_mono
      (unchangedBut_of_still ((finish_still _ b).trans still)) (by decide))

/-! ### The two mounts that a READY answers (R27) -/

/-- A state in which the drive's reel is mounted for the job as it stood in `s`; `loading` holds where an arm
has loaded it. -/
structure ReadyFor (loading : Prop) (s : State) (d : DriveId) (n : Nat) (j : Job) (v : State) : Prop where
  job : ∃ p, v.job? n = some { j with prompt := p }
  drive : unaskedDrive (v.drive d) = unaskedDrive (s.drive d)
  station : v.station = s.station
  volume : ∀ x e, j.volume = some x → s.volume? x = some e →
    ∃ l, v.volume? x = some { e with location := l } ∧ (loading → l = e.location) ∧ (¬loading → l = .drive d)
  unmapped : j.volume = none → v.map = s.map
  loaded : loading → v.map = s.map ∧ v.errors = s.errors
  rest : unchangedBut (aftermath ++ [.map, .errors]) s v

theorem exec_ready {d : DriveId} {we : Bool} {label : Option Code} (hr : s.reads d = true) :
    exec (.ready d we label) s =
      .next (State.finish s ((s.forward d (.ready we label)).takeReady d we label)) := by
  change execReady d we label s = _
  simp only [execReady, hr, if_true]

theorem takeReady_loading {d : DriveId} {we : Bool} {label : Option Code} {n : Nat} {j : Job}
    (hs : (s.drive d).state = .loading) (hn : (s.drive d).job = some n) (hj : s.job? n = some j)
    (hl : label = none ∨ label = j.serial) : s.takeReady d we label = s.readyForJob d n j we := by
  simp only [State.takeReady, hs, hn, hj, Option.bind_some, Option.map_some, if_true]
  rcases hl with rfl | rfl
  · rfl
  · cases h : j.serial <;> simp

theorem takeReady_byHand {d : DriveId} {we : Bool} {label : Option Code} {n : Nat} {j : Job}
    (hs : (s.drive d).state = .reserved) (hn : (s.drive d).job = some n) (hj : s.job? n = some j)
    (hw : s.waitsForHand j = true) (hl : label = none ∨ label = j.serial) :
    s.takeReady d we label = (s.handReady d n j).readyForJob d n j we := by
  have named : (label.isNone || decide (label = j.serial)) = true := by
    rcases hl with rfl | rfl <;> simp
  simp [State.takeReady, hs, hn, hj, hw, named]

theorem forward_readyFor {d : DriveId} {f : DriveFrame} {n : Nat} {j : Job} (hj : s.job? n = some j) :
    ReadyFor True s d n j (s.forward d f) where
  job := ⟨j.prompt, hj⟩
  drive := rfl
  station := rfl
  volume _ e _ he := ⟨e.location, he, fun _ => rfl, fun h => absurd trivial h⟩
  unmapped _ := rfl
  loaded _ := ⟨rfl, rfl⟩
  rest := ⟨fun b _ => by cases b <;> rfl, rfl, rfl⟩

theorem handReady_none {j : Job} (d : DriveId) (n : Nat) (h : j.volume = none) :
    s.handReady d n j = s.withdrawJobPrompt n fun _ => true := by
  simp only [State.handReady, h]

theorem handReady_some {j : Job} {v : Nat} (d : DriveId) (n : Nat) (h : j.volume = some v) :
    s.handReady d n j = (s.withdrawJobPrompt n fun _ => true).moveVolume v (.drive d) := by
  simp only [State.handReady, h]

/-- A mount by hand is answered: the prompt is withdrawn and the volume stands at the drive (R27). -/
theorem handReady_readyFor {d : DriveId} {f : DriveFrame} {n : Nat} {j : Job} (hj : s.job? n = some j) :
    ReadyFor False s d n j ((s.forward d f).handReady d n j) := by
  have withdrawn := withdrawJobPrompt_asked (s.forward d f) n fun _ => true
  have unmapped (hv : j.volume = none) := handReady_none (s := s.forward d f) d n hv
  have mapped (v : Nat) (hv : j.volume = some v) := handReady_some (s := s.forward d f) d n hv
  generalize (s.forward d f).withdrawJobPrompt n (fun _ => true) = u at withdrawn unmapped mapped
  obtain ⟨p, hp⟩ := withdrawn.job_some (s := s.forward d f) (j := j) hj
  have map : u.map = s.map := (congrArg Still.map withdrawn.still :)
  have rest : unchangedBut aftermath s u := unchangedBut_of_still withdrawn.still
  cases hv : j.volume with
  | none =>
    rw [unmapped hv]
    exact {
      job := ⟨p, hp⟩
      drive := withdrawn.drive d
      station := withdrawn.station
      volume := fun x e hx => by rw [hv] at hx; simp at hx
      unmapped := fun _ => map
      loaded := False.elim
      rest := unchangedBut_mono rest (by decide) }
  | some v =>
    rw [mapped v hv]
    exact {
      job := ⟨p, by rw [moveVolume_same]; exact hp⟩
      drive := by rw [moveVolume_same]; exact withdrawn.drive d
      station := by rw [moveVolume_same]; exact withdrawn.station
      volume := fun x e hx he => by
        obtain rfl := Option.some.inj (hv.symm.trans hx)
        refine ⟨.drive d, ?_, False.elim, fun _ => rfl⟩
        rw [moveVolume_volume, volume_congr map, he]
        rfl
      unmapped := fun h => by rw [hv] at h; simp at h
      loaded := False.elim
      rest := unchangedBut_trans (unchangedBut_mono rest (by decide))
        (unchangedBut_mono (unchangedBut_moveVolume v (.drive d)) (by decide)) }

theorem handReady_sent {d : DriveId} {n : Nat} {j : Job} : s.sent <+: (s.handReady d n j).sent := by
  have withdrawn := (withdrawJobPrompt_asked s n fun _ => true).sent
  unfold State.handReady
  split
  · exact withdrawn.trans (moveVolume_sent _ _)
  · exact withdrawn

/-- The state whose map stands at the end of a mount: a scratch mount that completes claims its volume. -/
def charted (s : State) (d : DriveId) (j : Job) (we : Bool) : State :=
  if j.cancelled = true then opened s d j we else (opened s d j we).claimScratch j

theorem charted_volume {d : DriveId} {j : Job} {we : Bool} {x : Nat} (h : j.volume = some x) :
    (charted s d j we).volume? x = (s.volume? x).map fun e => { e with
      ring := if we then .ringIn else .ringOut
      mountCount := min 65535 (e.mountCount + 1)
      lastMountDay := some s.clock.day
      pool := if j.scratch = true ∧ j.cancelled = false then .privatePool else e.pool
      owner := if j.scratch = true ∧ j.cancelled = false then j.account else e.owner } := by
  have used := openOccupancy_volume (s := s) (d := d) (a := j.account) (k := j.mountKind) (og := j.origin) (we := we) h
  unfold charted
  cases hc : j.cancelled
  · rw [if_neg Bool.false_ne_true, claimScratch_volume h, opened, used, Option.map_map]
    simp [Function.comp_def]
  · rw [if_pos rfl, opened, used]
    simp

theorem charted_volume_ne {d : DriveId} {j : Job} {we : Bool} {x u : Nat} (h : j.volume = some x) (hu : u ≠ x) :
    (charted s d j we).volume? u = s.volume? u := by
  have unused := openOccupancy_volume_ne (s := s) (d := d) (a := j.account) (k := j.mountKind) (og := j.origin)
    (we := we) h hu
  unfold charted
  split
  · exact unused
  · exact (claimScratch_volume_ne h hu).trans unused

theorem charted_map_none {d : DriveId} {j : Job} {we : Bool} (h : j.volume = none) :
    (charted s d j we).map = s.map := by
  have unused : (opened s d j we).map = s.map := openOccupancy_map_none h
  unfold charted State.claimScratch
  rw [h]
  split
  · exact unused
  · split
    · next v hv => simp at hv
    · exact unused

/-- What a READY for a job leaves to the end of the event. -/
structure Mounted (v : State) (d : DriveId) (n : Nat) (j : Job) (we : Bool) (t : State) : Prop where
  drive : calmDrive (t.drive d) = calmDrive { mountedDrive v d j with state := (t.drive d).state }
  completed : j.cancelled = false → (t.drive d).state = .occupied ∧ (t.drive d).job = none ∧
    toldOrigin n j (.mountComplete (!we)) v t
  rewound : j.cancelled = true → (t.drive d).state = .unloading ∧ (t.drive d).job = some n ∧
    sentAmong (.string (.rewindUnload d)) v t ∧
    ∃ j', t.job? n = some j' ∧ j'.state = .unloadWait ∧ j'.returning = true
  map : t.map = (charted v d j we).map
  sent : v.sent <+: t.sent
  rest : unchangedBut (aftermath ++ [.map, .accounting]) v t

theorem readyForJob_mounted {loading : Prop} {v : State} {d : DriveId} {n : Nat} {j : Job} {we : Bool}
    (r : ReadyFor loading s d n j v) (hn : (s.drive d).job = some n) (hd : j.drive = some d)
    (ha : j.arm = none) : Mounted v d n j we (State.finish s (v.readyForJob d n j we)) := by
  obtain ⟨p, hp⟩ := r.job
  have job : (v.drive d).job = some n := (congrArg Drive.job r.drive :).trans hn
  cases hc : j.cancelled with
  | false =>
    obtain ⟨drive, named, told, map, sent, rest⟩ :=
      mount_completes (b := s) (we := we) hp rfl job hd ha hc
    rw [opened_drive] at drive
    have state : _ = DriveState.occupied := (congrArg Drive.state drive :)
    exact {
      drive := by rw [drive]; exact congrArg (fun q => calmDrive { mountedDrive v d j with state := q }) state.symm
      completed := fun _ => ⟨state, named, told⟩
      rewound := fun h => by rw [hc] at h; simp at h
      map := by rw [map, charted, hc, if_neg Bool.false_ne_true]
      sent := sent
      rest := rest }
  | true =>
    obtain ⟨drive, named, rewound, waits, map, sent, rest⟩ :=
      mount_rewinds (b := s) (we := we) hp rfl job r.station hc
    rw [opened_drive] at drive
    have state : _ = DriveState.unloading := (congrArg Drive.state drive :)
    exact {
      drive := by rw [drive]; exact congrArg (fun q => calmDrive { mountedDrive v d j with state := q }) state.symm
      completed := fun h => by rw [hc] at h; simp at h
      rewound := fun _ => ⟨state, named, rewound, waits⟩
      map := by rw [map, charted, hc, if_pos rfl]
      sent := sent
      rest := rest }

/-- Settles O41: either READY brings the job to a state that is mounted from, and what a mount leaves there is
read at the end of the event. -/
theorem readyCompletesMount : Obligations.ReadyCompletesMount := by
  intro s d we label n j hr hn hj _ hd ha hl loading byHand hm
  let status := Sent.link (s.upwardLink d) (.status d (.ready we label))
  obtain ⟨v, answer, first, r⟩ : ∃ v, exec (.ready d we label) s = .next (State.finish s (v.readyForJob d n j we)) ∧
      s.sent ++ [status] <+: v.sent ∧ ReadyFor loading s d n j v := by
    rw [exec_ready hr]
    rcases hm with h | ⟨hs, hw, m, p, hp, hq, hk⟩
    · refine ⟨_, by rw [takeReady_loading (s := s.forward d _) h hn hj hl], List.prefix_rfl, ?_⟩
      rw [show loading = True from eq_true h]
      exact forward_readyFor hj
    · have waits : (s.forward d (.ready we label)).waitsForHand j = true := by
        have hq : (s.forward d (.ready we label)).prompt? m = some p := hq
        simp [State.waitsForHand, hw, hp, hq, hk]
      refine ⟨_, by rw [takeReady_byHand (s := s.forward d _) hs hn hj waits hl],
        handReady_sent (s := s.forward d (.ready we label)), ?_⟩
      rw [show loading = False from eq_false fun h => DriveState.noConfusion (hs.symm.trans h)]
      exact handReady_readyFor hj
  have m := readyForJob_mounted (we := we) r hn hd ha
  generalize State.finish s (v.readyForJob d n j we) = t at m answer
  have clock : v.clock = s.clock := r.rest.1 .clock (by decide)
  have accounting : v.accounting = s.accounting := r.rest.1 .accounting (by decide)
  have before : s.sent <+: v.sent := (List.prefix_append _ _).trans first
  have mounts : (v.drive d).mountsSinceClean = (s.drive d).mountsSinceClean :=
    (congrArg Drive.mountsSinceClean r.drive :)
  refine ⟨t, answer, sentFirst_of_prefix (first.trans m.sent), ?_, (congrArg Drive.loadTimer m.drive :), ?_,
    fun h => ?_, fun h => ?_, fun x e hx he => ⟨fun h u hu => ?_, ?_⟩, fun h => ?_, fun h => ?_, ?_⟩
  · exact (congrArg Drive.occupancy m.drive :).trans
      (congrArg some (newOccupancy_congr clock accounting j.account j.mountKind j.volume j.origin))
  · exact (congrArg Drive.mountsSinceClean m.drive :).trans (congrArg (fun k => min 255 (k + 1)) mounts)
  · obtain ⟨state, job, told⟩ := m.completed h
    exact ⟨state, job, toldOrigin_between before told List.prefix_rfl⟩
  · obtain ⟨state, job, rewound, waits⟩ := m.rewound h
    exact ⟨state, job, sentAmong_after before rewound, waits⟩
  · rw [volume_congr m.map, charted_volume_ne hx hu, volume_congr (r.loaded h).1]
  · obtain ⟨l, hv, hload, hhand⟩ := r.volume x e hx he
    rw [volume_congr m.map, charted_volume hx, hv, clock]
    by_cases h : (s.drive d).state = .loading
    · simp [h, hload h]
    · simp [h, hhand h]
  · rw [m.map, charted_map_none h, r.unmapped h]
  · rw [m.rest.1 .errors (by decide), (r.loaded h).2]
  · exact unchangedBut_trans (unchangedBut_mono r.rest (by decide)) (unchangedBut_mono m.rest (by decide))

end Sys2Proof.DriveString
end

section
/-!
O43: an UNLOADED by the state of its drive (R31, R37, R49, R149, R150, R158).
-/

namespace Sys2Proof.DriveString

open Machine

variable {s t : State}

/-! ### Records (R155 to R157) -/

theorem withAccounting_calm {X : Nat → Prop} {g o : Prop} (a : Accounting) :
    Calm X g o s { s with accounting := a } where
  bare := rfl
  sent := List.prefix_rfl
  drive _ := .refl _
  ring _ := .refl _
  hatch _ := .refl _
  arm x := by cases x <;> exact .refl _
  job _ j _ hj := ⟨j, hj, .refl j⟩
  prompt _ _ hx _ := hx

theorem placeRecord_calm {X : Nat → Prop} {g o : Prop} (r : Record) : Calm X g o s (s.placeRecord r) := by
  have live (u : State) (f : Totals → Totals) : Calm X g o u (u.updateLive r.account f) := updateAccount_calm u _ _
  unfold State.placeRecord
  dsimp only
  refine .trans (withAccounting_calm
    { s.accounting with recordSequence := (s.accounting.recordSequence + 1) % (max32 + 1) }) ?_
  refine .trans ?_ (live _ _)
  split
  · refine .trans ?_ (setLevel_calm _ _ _ _)
    exact .trans (withAccounting_calm _) (live _ _)
  · exact live _ _

theorem placeRecord_same (r : Record) : s.placeRecord r = { s with
    accounting := (s.placeRecord r).accounting, notices := (s.placeRecord r).notices
    sent := (s.placeRecord r).sent } := by
  unfold State.placeRecord
  dsimp only
  split
  · rw [State.evalRecordsHigh, setLevel_same]; rfl
  · rfl

/-- The totals of an account after a record of it has been placed in the queue (R155). -/
def totalsWith (r : Record) (t : Totals) : Totals :=
  { t with
    listedCount := saturate max32 (t.listedCount + 1)
    periodCharge := saturate max32 (t.periodCharge + r.charge)
    chargeSaturated := t.chargeSaturated || decide (max32 < t.periodCharge + r.charge) }

theorem get_update_update {α : Type} {n : Nat} (b : Bank α n) (i k : Fin n) (f g : α → α) :
    ((b.update i f).update i g).get k = if k = i then g (f (b.get i)) else b.get k := by
  by_cases h : k = i
  · subst h
    rw [if_pos rfl, Bank.update, Bank.get_set_self, Bank.update, Bank.get_set_self]
  · rw [if_neg h, Bank.update, Bank.get_set_ne _ _ _ _ (Ne.symm h), Bank.update,
      Bank.get_set_ne _ _ _ _ (Ne.symm h)]

/-- A record for which the queue has room joins it, and its account's totals rise (R155, R156). -/
theorem placeRecord_listed (r : Record) (h : s.accounting.records.length < 256) :
    (s.placeRecord r).accounting.records = s.accounting.records ++ [r] ∧
      ∀ a, (s.placeRecord r).accounting.accounts.get a =
        if a = r.account then { s.accounting.accounts.get r.account with
          live := totalsWith r (s.accounting.accounts.get r.account).live }
        else s.accounting.accounts.get a := by
  unfold State.placeRecord
  dsimp only
  rw [if_pos h, State.evalRecordsHigh, setLevel_same]
  exact ⟨rfl, fun a => get_update_update s.accounting.accounts r.account a
    (fun e => { e with live := { e.live with listedCount := saturate max32 (e.live.listedCount + 1) } })
    (fun e => { e with live := { e.live with
      periodCharge := saturate max32 (e.live.periodCharge + r.charge)
      chargeSaturated := e.live.chargeSaturated || decide (max32 < e.live.periodCharge + r.charge) } })⟩

/-! ### The charge (R150) -/

theorem timeCharge_eq (rates bands : Bank Nat 4) : timeCharge rates bands =
    (bands.get 0 + 59) / 60 * rates.get 0 + (bands.get 1 + 59) / 60 * rates.get 1 +
      (bands.get 2 + 59) / 60 * rates.get 2 + (bands.get 3 + 59) / 60 * rates.get 3 := by
  obtain ⟨r, hr⟩ := rates
  obtain ⟨b, hb⟩ := bands
  match r, hr, b, hb with
  | [r0, r1, r2, r3], _, [b0, b1, b2, b3], _ =>
    simp [timeCharge, bandMinutes, Bank.get]
    omega

theorem exactCharge_final (d : DriveId) (o : Occupancy) :
    exactCharge s.accounting.active (s.drive d).driveClass o true = timeAndFee s d o + transferOf s d o := by
  simp only [exactCharge, timeAndFee, transferOf, transferCharge, timeCharge_eq, if_true]

/-! ### What an UNLOADED tells the job (R31, R49, R58) -/

theorem jobUnloaded_calm {g o : Prop} (n : Nat) (d : DriveId) : Calm AnyJob g o s (s.jobUnloaded n d) := by
  unfold State.jobUnloaded State.releaseWrongReel
  split
  · exact .refl s
  · split
    · refine .ite ?_ (.refl s)
      split
      · exact (updateJob_calm_of s n _ trivial).trans (setJobState_calm_of _ n _ trivial)
      · exact heldPosting_calm s n _ _ _
    · exact .ite (afterUnloaded_calm s n d trivial) (.refl s)

theorem jobUnloaded_still (n : Nat) (d : DriveId) : (s.jobUnloaded n d).still = s.still := by
  unfold State.jobUnloaded State.releaseWrongReel
  (repeat' split) <;> simp

/-- The part waits for an arm to take the reel home from its drive (R49). -/
theorem afterUnloaded_waits {n v : Nat} {d : DriveId} {j : Job} {c : Cell} (hj : s.job? n = some j)
    (hv : s.locatedAt (.drive d) = some v) (hc : s.homeCell v = some c)
    (hk : (s.drive d).lastMountKind ≠ some .manual) : (s.afterUnloaded n d).job? n = some { j with
      legs := [.pull d, .stow c], leg := 0, retryUsed := false, state := .waiting
      aging := .running s.policy.agingTicks } ∧ (s.afterUnloaded n d).station = s.station ∧
      (s.afterUnloaded n d).arms = s.arms := by
  have home : s.homeLeg (some v) = .stow c := by simp [State.homeLeg, hc]
  unfold State.afterUnloaded
  simp only [hv, hc, hk, Option.bind_some, Option.isNone_some, decide_false, Bool.or_false,
    Bool.false_eq_true, if_false, home]
  refine ⟨?_, rfl, rfl⟩
  rw [State.setJobState, updateJob_job, updateJob_job, hj]
  simp

/-- The reel taken home or put to the operators, its job's returning flag stands. -/
theorem afterUnloaded_returning {n : Nat} {d : DriveId} {j : Job} (hj : s.job? n = some j) :
    (∃ j', (s.afterUnloaded n d).job? n = some j' ∧ j'.returning = j.returning) ∧
      (s.afterUnloaded n d).station = s.station := by
  have state (u : State) (i : Job) (q : JobState) (hi : u.job? n = some i) :
      ∃ i', (u.setJobState n q).job? n = some i' ∧ i'.returning = i.returning := by
    rw [State.setJobState, updateJob_job, hi]
    exact ⟨_, rfl, rfl⟩
  unfold State.afterUnloaded
  dsimp only
  split
  · obtain ⟨i, hi, returning⟩ := state s j .manual hj
    have posted := postForJob_asked (s.setJobState n .manual) n .demountByHand
      { drive := some d
        serial := match (s.locatedAt (.drive d)).bind s.serialOf with
          | some c => some c
          | none => (s.job? n).bind Job.serial }
    obtain ⟨p, hp⟩ := posted.job_some hi
    exact ⟨⟨_, hp, returning⟩, posted.station⟩
  · exact ⟨state _ { j with legs := _, leg := 0, retryUsed := false } .waiting
      (by rw [updateJob_job, hj]; rfl), rfl⟩

/-! ### An occupancy closes (R31, R149) -/

/-- The reel of a drive has been unloaded. -/
def reelOff (s : State) (d : DriveId) : State :=
  s.updateDrive d fun e =>
    { e with state := .awaitingPull, lastMountKind := e.occupancy.map Occupancy.mountKind }

/-- The occupancy of a drive has closed with its FINAL record. -/
def closed (s : State) (d : DriveId) (o : Occupancy) : State :=
  ((reelOff s d).placeRecord ((reelOff s d).occupancyRecord d o true)).updateDrive d fun e =>
    { e with occupancy := none }

theorem reelOff_drive (d : DriveId) : (reelOff s d).drive d = { s.drive d with
    state := .awaitingPull, lastMountKind := (s.drive d).occupancy.map Occupancy.mountKind } :=
  updateDrive_drive _ _ _

theorem closed_drive {d : DriveId} {o : Occupancy} (h : (s.drive d).occupancy = some o) :
    (closed s d o).drive d = { s.drive d with
      state := .awaitingPull, lastMountKind := some o.mountKind, occupancy := none } := by
  rw [closed, updateDrive_drive, placeRecord_same]
  change { (reelOff s d).drive d with occupancy := none } = _
  rw [reelOff_drive, h]
  rfl

theorem closed_same (d : DriveId) (o : Occupancy) : closed s d o = { s with
    drives := (closed s d o).drives, accounting := (closed s d o).accounting
    notices := (closed s d o).notices, sent := (closed s d o).sent } := by
  rw [closed, placeRecord_same]
  rfl

theorem closed_sent (d : DriveId) (o : Occupancy) : s.sent <+: (closed s d o).sent :=
  (placeRecord_calm (X := NoJob) (g := True) (o := True) (s := reelOff s d) _).sent

theorem takeUnloaded_reel {d : DriveId} {o : Occupancy}
    (hs : (s.drive d).state = .occupied ∨ (s.drive d).state = .unloading)
    (ho : (s.drive d).occupancy = some o) : s.takeUnloaded d = match (s.drive d).job with
      | some n => (closed s d o).jobUnloaded n d
      | none => if (s.drive d).autoDemount then (closed s d o).create d .demount else closed s d o := by
  have off : ((reelOff s d).drive d).occupancy = some o := by rw [reelOff_drive]; exact ho
  have close : (reelOff s d).closeOccupancy d = closed s d o := by
    rw [State.closeOccupancy, off]
    rfl
  have taken : s.takeUnloaded d = s.reelUnloaded d := by
    rcases hs with h | h <;> simp only [State.takeUnloaded, h]
  rw [taken, ← close]
  rfl

theorem exec_unloaded {d : DriveId} (hr : s.reads d = true) :
    exec (.unloaded d) s = .next (State.finish s ((s.forward d .unloaded).takeUnloaded d)) := by
  change execUnloaded d s = _
  simp only [execUnloaded, hr, if_true]

theorem exec_unloaded_unread {d : DriveId} (hr : s.reads d = false) :
    exec (.unloaded d) s = .next (s.forward d .unloaded) := by
  change execUnloaded d s = _
  simp only [execUnloaded, hr, Bool.false_eq_true, if_false]

theorem noIdleArm_congr (h : t.arms = s.arms) (hs : noIdleArm s) : noIdleArm t := by
  have arm (x : ArmId) : t.arm x = s.arm x := by cases x <;> simp only [State.arm, h]
  have same (x : ArmId) : t.isIdle x = s.isIdle x := by simp only [State.isIdle, arm]
  exact ⟨(same .a).trans hs.1, (same .b).trans hs.2⟩

theorem closed_bare (d : DriveId) (o : Occupancy) : bare (closed s d o) = bare s := by
  rw [closed_same]
  rfl

/-- What an UNLOADED of an occupied drive does after the close is calm and touches no account. -/
theorem takeUnloaded_calm {d : DriveId} {o : Occupancy}
    (hs : (s.drive d).state = .occupied ∨ (s.drive d).state = .unloading)
    (ho : (s.drive d).occupancy = some o) :
    Calm AnyJob True True (closed s d o) (s.takeUnloaded d) ∧ (s.takeUnloaded d).still = (closed s d o).still := by
  rw [takeUnloaded_reel hs ho]
  split
  · exact ⟨jobUnloaded_calm _ d, jobUnloaded_still _ d⟩
  · next hj =>
    split
    · refine ⟨create_calm _ d .demount ?_, create_still _ d _⟩
      rw [closed_drive ho]
      exact ⟨hj, .inr ⟨rfl, .inl trivial⟩⟩
    · exact ⟨.refl _, rfl⟩

/-- The FINAL record of an occupancy (R149, R150). -/
theorem finalRecord_spec (d : DriveId) (o : Occupancy) :
    let r := (reelOff s d).occupancyRecord d o true
    r.kind = .final ∧ recordOf s d o r ∧ r.blocksRead = o.blocksRead ∧ r.blocksWritten = o.blocksWritten ∧
      r.correctable = o.correctable ∧ r.charge = min 16777215 (timeAndFee s d o + transferOf s d o) ∧
      r.saturated = decide (16777215 < timeAndFee s d o + transferOf s d o) := by
  intro r
  have total : exactCharge (reelOff s d).accounting.active ((reelOff s d).drive d).driveClass o true =
      timeAndFee s d o + transferOf s d o := by
    rw [reelOff_drive]
    exact exactCharge_final (s := s) d o
  have serial : r.volumeSerial = (o.volume.bind s.volume?).map Volume.serial := by
    change o.volume.bind s.serialOf = _
    cases o.volume <;> rfl
  refine ⟨rfl, ⟨rfl, rfl, rfl, rfl, rfl, rfl, serial, rfl, rfl, rfl, rfl⟩, rfl, rfl, rfl, ?_, ?_⟩
  · exact congrArg (min 16777215) total
  · exact congrArg (fun n => decide (16777215 < n)) total

theorem unloaded_closes {d : DriveId} {o : Occupancy} (hr : s.reads d = true)
    (hs : (s.drive d).state = .occupied ∨ (s.drive d).state = .unloading)
    (ho : (s.drive d).occupancy = some o) (hl : s.accounting.records.length < 256) :
    ∃ t r, exec (.unloaded d) s = .next t ∧
      sentFirst (.link (s.upwardLink d) (.status d .unloaded)) s t ∧
      (t.drive d).state = .awaitingPull ∧ (t.drive d).occupancy = none ∧
      (t.drive d).lastMountKind = some o.mountKind ∧
      t.accounting.records = s.accounting.records ++ [r] ∧ r.kind = .final ∧ recordOf s d o r ∧
      r.blocksRead = o.blocksRead ∧ r.blocksWritten = o.blocksWritten ∧
      r.correctable = o.correctable ∧
      r.charge = min 16777215 (timeAndFee s d o + transferOf s d o) ∧
      r.saturated = decide (16777215 < timeAndFee s d o + transferOf s d o) ∧
      (t.accounting.accounts.get o.account).live.periodCharge = min 4294967295
        ((s.accounting.accounts.get o.account).live.periodCharge + r.charge) ∧
      (∀ a, a ≠ o.account → t.accounting.accounts.get a = s.accounting.accounts.get a) ∧
      ((s.drive d).job = none → (s.drive d).autoDemount = false → (t.drive d).job = none) ∧
      (∀ n j v c, (s.drive d).job = some n → s.job? n = some j → j.state = .unloadWait →
        s.locatedAt (.drive d) = some v → s.homeCell v = some c → o.mountKind ≠ .manual →
        noIdleArm s → ∃ j', t.job? n = some j' ∧ j'.state = .waiting ∧
          j'.legs = [.pull d, .stow c] ∧ j'.leg = 0) ∧
      unchangedBut (aftermath ++ [.accounting]) s t := by
  let s₁ := s.forward d .unloaded
  let r := (reelOff s₁ d).occupancyRecord d o true
  have taken := takeUnloaded_reel (s := s₁) hs ho
  obtain ⟨told, still⟩ := takeUnloaded_calm (s := s₁) hs ho
  have calm : Calm AnyJob True True (closed s₁ d o) (State.finish s (s₁.takeUnloaded d)) :=
    told.trans (finish_calm_any _ s)
  have entry := closed_drive (s := s₁) ho
  have after := calm.drive d
  rw [entry] at after
  have accounting : (State.finish s (s₁.takeUnloaded d)).accounting = (closed s₁ d o).accounting :=
    congrArg Still.accounting ((finish_still _ s).trans still)
  obtain ⟨records, accounts⟩ := placeRecord_listed (s := reelOff s₁ d) r hl
  obtain ⟨kind, ofOccupancy, read, written, correctable, charge, saturated⟩ := finalRecord_spec (s := s₁) d o
  refine ⟨_, r, exec_unloaded hr, sentFirst_of_prefix (t := State.finish s (s₁.takeUnloaded d))
      ((closed_sent (s := s₁) d o).trans calm.sent), after.state,
    (congrArg Drive.occupancy after.same :), (congrArg Drive.lastMountKind after.same :),
    (congrArg Accounting.records accounting).trans records, kind, ofOccupancy, read, written, correctable,
    charge, saturated, ?_, fun a ha => ?_, fun hj ha => ?_, fun n j v c hn hj hw hv hc hk hi => ?_, ?_⟩
  · rw [accounting]
    exact congrArg (fun e => e.live.periodCharge) ((accounts o.account).trans (if_pos rfl))
  · rw [accounting]
    exact (accounts a).trans (if_neg ha)
  · have stays : s₁.takeUnloaded d = closed s₁ d o := by
      rw [taken, show (s₁.drive d).job = none from hj, show (s₁.drive d).autoDemount = false from ha]
      rfl
    have k := (finish_calm (X := AnyJob) (g := True) (o := False) (closed s₁ d o) s
      (fun h => absurd trivial h) (.inl fun _ => trivial)).drive d
    rw [entry] at k
    change ((State.finish s (s₁.takeUnloaded d)).drive d).job = none
    rw [stays]
    refine (k.job.resolve_right ?_).trans hj
    rintro ⟨-, h | ⟨-, h | h⟩⟩
    · simp at h
    · exact h
    · exact Bool.noConfusion (ha.symm.trans h)
  · have waits := afterUnloaded_waits (s := closed s₁ d o) (d := d) (n := n) (j := j)
      (by rw [closed_same]; exact hj) (by rw [closed_same]; exact hv) (by rw [closed_same]; exact hc)
      (by rw [entry]; simpa using hk)
    obtain ⟨listed, station, arms⟩ := waits
    have goes : s₁.takeUnloaded d = (closed s₁ d o).afterUnloaded n d := by
      rw [taken, show (s₁.drive d).job = some n from hn]
      have found : (closed s₁ d o).job? n = some j := by rw [closed_same]; exact hj
      simp [State.jobUnloaded, found, hw]
    rw [goes]
    have quiet := finish_calm (X := NoJob) (g := False) (o := True) ((closed s₁ d o).afterUnloaded n d) s
      (fun _ => noIdleArm_congr (arms.trans (by rw [closed_same]; rfl)) hi)
      (.inr (freed_none (station.trans (by rw [closed_same]; rfl))))
    obtain ⟨j', hj', k⟩ := quiet.job n _ id listed
    have steady := k.steady id
    exact ⟨j', hj', (congrArg Job.state steady :), (congrArg Job.legs steady :), (congrArg Job.leg steady :)⟩
  · exact unchangedBut_of_bare (calm.bare.trans (closed_bare d o))

/-! ### A reel that failed to thread (R31, R61) -/

theorem sendFailure_same (n : Nat) (f : Lifecycle) : s.sendFailure n f =
    { s with sent := (s.sendFailure n f).sent, work := (s.sendFailure n f).work } := by
  unfold State.sendFailure
  split
  · split
    · rfl
    · exact sendLifecycle_same s n f
  · rfl

/-- A failure told takes the job's origin and nothing else of it (R66). -/
theorem sendFailure_job {n : Nat} {j : Job} (f : Lifecycle) (hj : s.job? n = some j) :
    ∃ og, (s.sendFailure n f).job? n = some { j with origin := og } := by
  unfold State.sendFailure State.sendLifecycle
  rw [hj]
  dsimp only
  split
  · exact ⟨j.origin, hj⟩
  · split
    · exact ⟨none, by rw [updateJob_job]; exact congrArg (Option.map _) hj⟩
    · exact ⟨j.origin, hj⟩

theorem sendFailure_told {n : Nat} {j : Job} {f : Lifecycle} (hj : s.job? n = some j)
    (hc : j.cancelled = false) : toldOrigin n j f s (s.sendFailure n f) := by
  intro og ho
  refine ⟨_, ?_, List.mem_singleton_self _⟩
  rw [State.sendFailure, hj]
  dsimp only
  rw [hc, if_neg Bool.false_ne_true]
  exact sendLifecycle_told s f hj ho

/-- The reel of a mount failed to thread: its drive waits for a PULL and its job is told (R31). -/
def unthreaded (s : State) (d : DriveId) (n : Nat) (j : Job) : State :=
  ((s.updateDrive d fun e => { e with
      state := .awaitingPull, loadTimer := .stopped, lastMountKind := some j.mountKind })
    |>.sendFailure n (.mountFailed .notReady)).updateJob n fun j => { j with returning := true }

theorem takeUnloaded_loading {d : DriveId} {n : Nat} {j : Job} (hs : (s.drive d).state = .loading)
    (hn : (s.drive d).job = some n) (hj : s.job? n = some j) :
    s.takeUnloaded d = (unthreaded s d n j).afterUnloaded n d := by
  simp only [State.takeUnloaded, hs, State.notReady, hn, hj, Option.bind_some, Option.map_some]
  rfl

theorem unloaded_notReady {d : DriveId} {n : Nat} {j : Job} (hr : s.reads d = true)
    (hs : (s.drive d).state = .loading) (hn : (s.drive d).job = some n) (hj : s.job? n = some j) :
    ∃ t j', exec (.unloaded d) s = .next t ∧
      sentFirst (.link (s.upwardLink d) (.status d .unloaded)) s t ∧
      (t.drive d).state = .awaitingPull ∧ (t.drive d).loadTimer = .stopped ∧
      t.job? n = some j' ∧ j'.returning = true ∧
      (j.cancelled = false → toldOrigin n j (.mountFailed .notReady) s t) ∧
      unchangedBut aftermath s t := by
  let s₁ := s.forward d .unloaded
  let u := s₁.updateDrive d fun e =>
    { e with state := .awaitingPull, loadTimer := .stopped, lastMountKind := some j.mountKind }
  obtain ⟨og, told⟩ := sendFailure_job (s := u) (.mountFailed .notReady) hj
  have listed : (unthreaded s₁ d n j).job? n = some { j with origin := og, returning := true } := by
    rw [unthreaded, updateJob_job, told]
    rfl
  have entry : (unthreaded s₁ d n j).drive d = { s₁.drive d with
      state := .awaitingPull, loadTimer := .stopped, lastMountKind := some j.mountKind } := by
    rw [unthreaded, sendFailure_same]
    exact updateDrive_drive _ _ _
  have still : (unthreaded s₁ d n j).still = s.still := by rw [unthreaded, sendFailure_same]; rfl
  have station : (unthreaded s₁ d n j).station = s.station := by rw [unthreaded, sendFailure_same]; rfl
  have before : s₁.sent <+: (unthreaded s₁ d n j).sent := (sendFailure_loose u n _).sent
  have taken := takeUnloaded_loading (s := s₁) hs hn hj
  obtain ⟨⟨i, hi, returning⟩, stays⟩ := afterUnloaded_returning (d := d) listed
  have waits : Calm AnyJob True True (unthreaded s₁ d n j) (s₁.takeUnloaded d) := by
    rw [taken]
    exact afterUnloaded_calm _ n d trivial
  have calm : Calm NoJob True True (s₁.takeUnloaded d) (State.finish s (s₁.takeUnloaded d)) := by
    refine finish_calm _ s (fun h => absurd trivial h) (.inr (freed_none ?_))
    rw [taken]
    exact stays.trans station
  have after := (waits.drive d).trans (calm.drive d)
  rw [entry] at after
  have later := waits.sent.trans calm.sent
  rw [← taken] at hi
  obtain ⟨j', hj', c⟩ := calm.job n i id hi
  refine ⟨_, j', exec_unloaded hr, sentFirst_of_prefix (t := State.finish s (s₁.takeUnloaded d))
      (before.trans later), after.state, (congrArg Drive.loadTimer after.same :), hj', c.returning.trans returning,
    fun hc => ?_, unchangedBut_of_still ((finish_still _ s).trans ?_)⟩
  · exact toldOrigin_between (t := u) (List.prefix_append _ _) (sendFailure_told (s := u) hj hc) later
  · rw [show (s.forward d .unloaded).takeUnloaded d = _ from taken, afterUnloaded_still]
    exact still

/-! ### A cleaning ends (R37, R158) -/

/-- A cleaning has ended: the drive waits for a PULL, and the cleaner has been used once. -/
def cleanedState (s : State) (d : DriveId) : State :=
  let u := s.updateDrive d fun e => { e with
    state := .awaitingPull, cleaningTimer := .stopped, mountsSinceClean := 0, lastMountKind := some .robot }
  match s.locatedAt (.drive d) with
  | some v => u.updateVolume v fun c => { c with usesLeft := c.usesLeft - 1 }
  | none => u

theorem cleanedState_same (d : DriveId) : cleanedState s d = { s with
    drives := (cleanedState s d).drives, map := (cleanedState s d).map } := by
  unfold cleanedState
  dsimp only
  split <;> rfl

theorem cleanedState_drive (d : DriveId) : (cleanedState s d).drive d = { s.drive d with
    state := .awaitingPull, cleaningTimer := .stopped, mountsSinceClean := 0, lastMountKind := some .robot } := by
  unfold cleanedState
  dsimp only
  split <;> exact updateDrive_drive _ _ _

theorem cleanedState_volume {d : DriveId} {v : Nat} (h : s.locatedAt (.drive d) = some v) :
    (cleanedState s d).volume? v = (s.volume? v).map fun e => { e with usesLeft := e.usesLeft - 1 } := by
  unfold cleanedState
  rw [h]
  exact updateVolume_volume _ _ _

/-- What follows the record of a cleaning is calm and leaves the still parts. -/
theorem takeUnloaded_cleaning {d : DriveId} (hs : (s.drive d).state = .cleaning) :
    let u := (cleanedState s d).placeRecord ((cleanedState s d).cleanRecord d (s.locatedAt (.drive d)))
    Calm AnyJob True True u (s.takeUnloaded d) ∧ (s.takeUnloaded d).still = u.still := by
  intro u
  have taken : s.takeUnloaded d = match (s.drive d).job with
      | some n => (u.updateJob n fun j =>
          { j with legs := u.cleanerLegs d (s.locatedAt (.drive d)), leg := 0, retryUsed := false })
            |>.setJobState n .waiting
      | none => u.create d .cleanFromPull := by
    simp only [State.takeUnloaded, hs]
    rfl
  rw [taken]
  split
  · exact ⟨(updateJob_calm_of u _ _ trivial).trans (setJobState_calm_of _ _ _ trivial), rfl⟩
  · next hj =>
    refine ⟨create_calm u d .cleanFromPull ?_, create_still u d _⟩
    have entry : u.drive d = (cleanedState s d).drive d := by
      simp only [u]
      rw [placeRecord_same]
      rfl
    rw [entry, cleanedState_drive]
    exact ⟨hj, .inr ⟨rfl, .inl trivial⟩⟩

theorem unloaded_cleaned {d : DriveId} (hr : s.reads d = true) (hs : (s.drive d).state = .cleaning)
    (hl : s.accounting.records.length < 256) :
    ∃ t r, exec (.unloaded d) s = .next t ∧
      sentFirst (.link (s.upwardLink d) (.status d .unloaded)) s t ∧
      (t.drive d).state = .awaitingPull ∧ (t.drive d).mountsSinceClean = 0 ∧
      (t.drive d).cleaningTimer = .stopped ∧
      t.accounting.records = s.accounting.records ++ [r] ∧ r.kind = .clean ∧ r.account = 0 ∧
      r.charge = 0 ∧
      (∀ v e, s.locatedAt (.drive d) = some v → s.volume? v = some e →
        t.volume? v = some { e with usesLeft := e.usesLeft - 1 }) ∧
      unchangedBut (aftermath ++ [.map, .accounting]) s t := by
  let s₁ := s.forward d .unloaded
  let r := (cleanedState s₁ d).cleanRecord d (s₁.locatedAt (.drive d))
  obtain ⟨told, still⟩ := takeUnloaded_cleaning (s := s₁) hs
  have placed : Calm AnyJob True True (cleanedState s₁ d) ((cleanedState s₁ d).placeRecord r) := placeRecord_calm r
  have calm : Calm AnyJob True True (cleanedState s₁ d) (State.finish s (s₁.takeUnloaded d)) :=
    (placed.trans told).trans (finish_calm_any _ s)
  have accounting : (State.finish s (s₁.takeUnloaded d)).accounting =
      ((cleanedState s₁ d).placeRecord r).accounting := congrArg Still.accounting ((finish_still _ s).trans still)
  have after := calm.drive d
  rw [cleanedState_drive] at after
  have kept : (cleanedState s₁ d).accounting = s.accounting := by rw [cleanedState_same]; rfl
  have first : (cleanedState s₁ d).sent = s₁.sent := by rw [cleanedState_same]
  obtain ⟨records, -⟩ := placeRecord_listed (s := cleanedState s₁ d) r (by rw [kept]; exact hl)
  refine ⟨_, r, exec_unloaded hr, sentFirst_of_prefix (t := State.finish s (s₁.takeUnloaded d)) ?_, after.state,
    (congrArg Drive.mountsSinceClean after.same :), after.timer (by simp), ?_, rfl, rfl, rfl,
    fun v e hv he => ?_, ?_⟩
  · have k := calm.sent
    rwa [first] at k
  · exact (congrArg Accounting.records accounting).trans (by rw [records, kept])
  · rw [volume_congr calm.map, cleanedState_volume (s := s₁) hv]
    exact congrArg (Option.map _) he
  · refine unchangedBut_trans (t := cleanedState s₁ d) ?_ (unchangedBut_mono (unchangedBut_of_bare calm.bare) (by decide))
    rw [cleanedState_same]
    refine ⟨fun b hb => ?_, rfl, rfl⟩
    cases b <;> first
      | exact absurd (by decide) hb
      | rfl

/-- Settles O43, by the state of the drive. -/
theorem unloadedClosesOccupancy : Obligations.UnloadedClosesOccupancy := by
  intro s d status
  exact ⟨exec_unloaded_unread, fun _ hr hs ho hl => unloaded_closes hr hs ho hl,
    fun _ _ hr hs hn hj => unloaded_notReady hr hs hn hj, fun hr hs hl => unloaded_cleaned hr hs hl⟩

end Sys2Proof.DriveString
end

section
/-!
O44: CHECK and USAGE, and the threshold of a drive's errors (R21, R32, R34).
-/

namespace Sys2Proof.DriveString

open Machine

variable {s t : State}

/-! ### The threshold (R34) -/

theorem goOn_calm {u : State} (j : Job) : Calm NoJob True True u (u.goOn j) := by
  unfold State.goOn
  split
  · exact tryGo_calm u _
  · exact .refl u

theorem turnHome_loose (u : State) (n : Nat) : Loose 0 u (u.turnHome n) := updateJob_loose u n _

theorem toldService_loose (n : Nat) : Loose 1 s (s.toldService n) := by
  have unnamed : Loose 0 s (s.updateJob n fun j => { j with drive := none }) := updateJob_loose s n _
  unfold State.toldService
  split
  · exact .refl s
  · next j _ =>
    refine .ite (.refl s) ?_
    dsimp only
    refine .trans (k := 0) (m := 1) unnamed ?_
    refine .ite (.refl _) (.ite (.ite (.refl _) ?_) (.ite (.refl _) (endJob_loose _ n none)))
    exact Loose.mono (k := 0) (.trans (k := 0) (m := 0) (turnHome_loose _ n) (goOn_calm j).loose) (Nat.zero_le 1)

/-- A drive's error count at its threshold, before the drive drains. -/
def overdue (e : Drive) : Prop := e.draining = false ∧ e.threshold ≤ e.errorCount

/-- A drive that is taken out of use when it drains. -/
abbrev idleDrive (e : Drive) : Prop := e.state = .empty ∨ e.state = .cleanDue

theorem compareThreshold_below {d : DriveId} (h : ¬overdue (s.drive d)) : s.compareThreshold d = s := by
  unfold State.compareThreshold
  dsimp only
  rw [if_neg]
  rw [Bool.and_eq_true, decide_eq_true_eq, Bool.not_eq_true']
  exact fun k => h ⟨k.2, k.1⟩

/-- A drive drains: the level is evaluated after the error is logged (R34). -/
def drained (s : State) (d : DriveId) : State :=
  ((s.updateDrive d fun e => { e with draining := true }).logError .driveThreshold .info
    { drive := some d, detail := some (.count (s.drive d).errorCount) }).evalDriveService

theorem compareThreshold_over {d : DriveId} (h : overdue (s.drive d)) : s.compareThreshold d =
    if idleDrive (s.drive d) then
      match (s.drive d).job with
      | some n => ((drained s d).enterService d).toldService n
      | none => (drained s d).enterService d
    else drained s d := by
  unfold State.compareThreshold
  dsimp only
  rw [if_pos (by simp [h.1, h.2])]
  by_cases k : idleDrive (s.drive d)
  · rw [if_pos k, if_pos (by simpa [idleDrive] using k)]
    rfl
  · rw [if_neg k, if_neg (by simpa [idleDrive] using k)]
    rfl

theorem drained_drive (d : DriveId) : (drained s d).drive d = { s.drive d with draining := true } := by
  rw [drained, State.evalDriveService, setLevel_same, logError_same]
  exact updateDrive_drive _ _ _

theorem drained_slight (d : DriveId) : Slight 0 ((s.updateDrive d fun e => { e with draining := true }).logError
    .driveThreshold .info { drive := some d, detail := some (.count (s.drive d).errorCount) }) (drained s d) :=
  (evalDriveService_loose _).toSlight

/-- What an error raised at a drive, its count already raised, leaves to the end of the event: the drive drains
when the count is at the threshold, and goes to SERVICE when it is empty (R34). -/
structure Compared (s : State) (d : DriveId) (t : State) : Prop where
  count : (t.drive d).errorCount = (s.drive d).errorCount
  draining : (t.drive d).draining = true ↔ (s.drive d).draining = true ∨ (s.drive d).threshold ≤ (s.drive d).errorCount
  occupancy : (t.drive d).occupancy = (s.drive d).occupancy
  service : overdue (s.drive d) → idleDrive (s.drive d) → (t.drive d).state = .service ∧ (t.drive d).job = none
  state : ¬(overdue (s.drive d) ∧ idleDrive (s.drive d)) → (t.drive d).state = (s.drive d).state
  logs : overdue (s.drive d) → logged .driveThreshold .info s t
  quiet : ¬overdue (s.drive d) → t.errors = s.errors
  slight : Slight 2 s t

/-- A drive that the comparison leaves in use keeps its entry, but that it may drain. -/
theorem compared_of_calm {d : DriveId} {u b : State} (e : u.drive d = { s.drive d with draining := true })
    (due : overdue (s.drive d)) (busy : ¬idleDrive (s.drive d))
    (h : Slight 0 ((s.updateDrive d fun e => { e with draining := true }).logError .driveThreshold .info
      { drive := some d, detail := some (.count (s.drive d).errorCount) }) u) : Compared s d (State.finish b u) := by
  have calm := finish_calm_any u b
  have after := (calm.drive d).same
  rw [e] at after
  have later := h.trans calm.loose.toSlight
  exact {
    count := (congrArg Drive.errorCount after :)
    draining := ⟨fun _ => .inr due.2, fun _ => (congrArg Drive.draining after :)⟩
    occupancy := (congrArg Drive.occupancy after :)
    service := fun _ k => absurd k busy
    state := fun _ => (congrArg Drive.state after :)
    logs := fun _ => logged_of_grew (s := s.updateDrive d fun e => { e with draining := true })
      (later.errors.mono (by omega))
    quiet := fun k => absurd due k
    slight := ((updateDrive_slight s d _).trans ((logError_loose _ _ _ _).toSlight.trans later)).mono (by omega) }

/-- A drive that drains empty is out of use, whatever becomes of its job. -/
theorem compared_of_service {d : DriveId} {u v b : State} (e : u.drive d = { s.drive d with draining := true })
    (due : overdue (s.drive d)) (idle : idleDrive (s.drive d))
    (h : Slight 0 ((s.updateDrive d fun e => { e with draining := true }).logError .driveThreshold .info
      { drive := some d, detail := some (.count (s.drive d).errorCount) }) u)
    (k : Loose 1 (u.enterService d) v) : Compared s d (State.finish b v) := by
  have ends : Loose 1 (u.enterService d) (State.finish b v) :=
    .trans (k := 1) (m := 0) k (finish_calm_any v b).loose
  obtain ⟨state, -, -, job⟩ := serviced_drive ends
  have entry := enterService_drive u d
  have after := (ends.drive d ⟨(congrArg Drive.job entry :), (congrArg Drive.state entry :)⟩).same
  have same := after.trans (calmDrive_congr entry)
  rw [e] at same
  have later := (h.trans (enterService_slight u d)).trans ends.toSlight
  exact {
    count := (congrArg Drive.errorCount same :)
    draining := ⟨fun _ => .inr due.2, fun _ => (congrArg Drive.draining same :)⟩
    occupancy := (congrArg Drive.occupancy same :)
    service := fun _ _ => ⟨state, job⟩
    state := fun k => absurd ⟨due, idle⟩ k
    logs := fun _ => logged_of_grew (s := s.updateDrive d fun e => { e with draining := true })
      (later.errors.mono (by omega))
    quiet := fun k => absurd due k
    slight := ((updateDrive_slight s d _).trans ((logError_loose _ _ _ _).toSlight.trans later)).mono (by omega) }

theorem compareThreshold_compared (d : DriveId) (b : State) :
    Compared s d (State.finish b (s.compareThreshold d)) := by
  by_cases due : overdue (s.drive d)
  · have entry := drained_drive (s := s) d
    rw [compareThreshold_over due]
    by_cases idle : idleDrive (s.drive d)
    · rw [if_pos idle]
      refine compared_of_service entry due idle (drained_slight d) ?_
      split
      · exact toldService_loose _
      · exact .refl _
    · rw [if_neg idle]
      exact compared_of_calm entry due idle (drained_slight d)
  · rw [compareThreshold_below due]
    have calm := finish_calm_any s b
    have after := (calm.drive d).same
    have draining : ((State.finish b s).drive d).draining = (s.drive d).draining := (congrArg Drive.draining after :)
    exact {
      count := (congrArg Drive.errorCount after :)
      draining := by
        rw [draining]
        refine ⟨.inl, fun h => h.elim id fun k => ?_⟩
        by_contra c
        exact due ⟨by simpa using c, k⟩
      occupancy := (congrArg Drive.occupancy after :)
      service := fun k => absurd k due
      state := fun _ => (calm.drive d).state
      logs := fun k => absurd k due
      quiet := fun _ => (congrArg Still.errors (finish_still s b) :)
      slight := calm.loose.toSlight.mono (by omega) }

/-- What `n` further errors of a drive leave to the end of the event (R32, R34). -/
def Raised (s : State) (d : DriveId) (n : Nat) (t : State) : Prop :=
  let e := s.drive d
  let count := min 255 (e.errorCount + n)
  let due := e.draining = false ∧ e.threshold ≤ count
  (t.drive d).errorCount = count ∧
    ((t.drive d).draining = true ↔ e.draining = true ∨ e.threshold ≤ count) ∧
    (due → idleDrive e → (t.drive d).state = .service ∧ (t.drive d).job = none) ∧
    (¬(due ∧ idleDrive e) → (t.drive d).state = e.state) ∧
    (due → logged .driveThreshold .info s t) ∧ (¬due → t.errors = s.errors)

/-- Errors are raised in a state that differs from `s` in the drive's occupancy and the frames sent. -/
theorem raiseErrors_raised {u : State} {d : DriveId} (n : Nat) {oc : Option Occupancy}
    (hd : u.drive d = { s.drive d with occupancy := oc }) (he : u.errors = s.errors) (hc : u.clock = s.clock) :
    let t := State.finish s (u.raiseErrors d n)
    Raised s d n t ∧ (t.drive d).occupancy = oc ∧ Slight 2 u t := by
  intro t
  let v := u.updateDrive d fun e => { e with errorCount := saturate 255 (e.errorCount + n) }
  have c : Compared v d t := compareThreshold_compared d s
  have entry : v.drive d =
      { s.drive d with occupancy := oc, errorCount := min 255 ((s.drive d).errorCount + n) } := by
    simp only [v]
    rw [updateDrive_drive, hd]
    rfl
  obtain ⟨count, draining, occupancy, service, state, logs, quiet, slight⟩ := c
  rw [entry] at count draining occupancy service state logs quiet
  refine ⟨⟨count, draining, service, state, fun h => ?_, fun h => (quiet h).trans he⟩, occupancy, ?_⟩
  · obtain ⟨x, hx, kind, severity, number, stamp⟩ := logs h
    refine ⟨x, hx, kind, severity, number.trans ?_, stamp.trans ?_⟩
    · exact congrArg ErrorLog.counter he
    · exact congrArg (fun k : Clock => ({ day := k.day, second := k.second } : Stamp)) hc
  · exact .trans (k := 0) (m := 2) (updateDrive_slight u d _) slight

/-! ### CHECK and USAGE (R32, R34) -/

theorem exec_check {d : DriveId} {c : CheckCode} (hr : s.reads d = true) :
    exec (.check d c) s = .next (State.finish s ((s.forward d (.check c)).takeCheck d c)) := by
  change execCheck d c s = _
  simp only [execCheck, hr, if_true]

theorem exec_check_unread {d : DriveId} {c : CheckCode} (hr : s.reads d = false) :
    exec (.check d c) s = .next (s.forward d (.check c)) := by
  change execCheck d c s = _
  simp only [execCheck, hr, Bool.false_eq_true, if_false]

theorem exec_usage {d : DriveId} {r w n : Nat} (hr : s.reads d = true) :
    exec (.usage d r w n) s = .next (State.finish s ((s.forward d (.usage r w n)).takeUsage d r w n)) := by
  change execUsage d r w n s = _
  simp only [execUsage, hr, if_true]

theorem exec_usage_unread {d : DriveId} {r w n : Nat} (hr : s.reads d = false) :
    exec (.usage d r w n) s = .next (s.forward d (.usage r w n)) := by
  change execUsage d r w n s = _
  simp only [execUsage, hr, Bool.false_eq_true, if_false]

theorem check_counts {d : DriveId} {c : CheckCode} {n : Nat} (hr : s.reads d = true)
    (hc : c = .correctable ∧ n = 1 ∨ c = .permanent ∧ n = 8) :
    ∃ t, exec (.check d c) s = .next t ∧
      sentFirst (.link (s.upwardLink d) (.status d (.check c))) s t ∧ Raised s d n t ∧
      (t.drive d).occupancy = (s.drive d).occupancy ∧
      unchangedBut (aftermath ++ [.errors, .accounting]) s t := by
  have taken : (s.forward d (.check c)).takeCheck d c = (s.forward d (.check c)).raiseErrors d n := by
    rcases hc with ⟨rfl, rfl⟩ | ⟨rfl, rfl⟩ <;> rfl
  have answer := exec_check (c := c) hr
  rw [taken] at answer
  obtain ⟨raised, occupancy, slight⟩ := raiseErrors_raised (s := s) (u := s.forward d (.check c)) (d := d) n rfl rfl rfl
  exact ⟨_, answer, sentFirst_of_prefix (t := State.finish s ((s.forward d (.check c)).raiseErrors d n)) slight.sent,
    raised, occupancy, unchangedBut_of_quiet (s := s) slight.quiet⟩

theorem usage_counts {d : DriveId} (r w n : Nat) (hr : s.reads d = true) :
    ∃ t, exec (.usage d r w n) s = .next t ∧
      sentFirst (.link (s.upwardLink d) (.status d (.usage r w n))) s t ∧
      (t.drive d).occupancy = (s.drive d).occupancy.map (Occupancy.addUsage r w n) ∧
      (0 < n → Raised s d n t) ∧ (n = 0 → (t.drive d).errorCount = (s.drive d).errorCount) ∧
      unchangedBut (aftermath ++ [.errors, .accounting]) s t := by
  let u := (s.forward d (.usage r w n)).updateDrive d fun e =>
    { e with occupancy := e.occupancy.map (Occupancy.addUsage r w n) }
  have entry : u.drive d =
      { s.drive d with occupancy := (s.drive d).occupancy.map (Occupancy.addUsage r w n) } := updateDrive_drive _ _ _
  have answer := exec_usage (r := r) (w := w) (n := n) hr
  rcases Nat.eq_zero_or_pos n with hn | hn
  · have taken : (s.forward d (.usage r w n)).takeUsage d r w n = u := if_neg (by omega)
    rw [taken] at answer
    have calm : Calm AnyJob True True u (State.finish s u) := finish_calm_any u s
    have after := (calm.drive d).same
    rw [entry] at after
    exact ⟨_, answer, sentFirst_of_prefix (t := State.finish s u) calm.sent, (congrArg Drive.occupancy after :),
      fun h => absurd h (by omega), fun _ => (congrArg Drive.errorCount after :),
      unchangedBut_of_quiet (s := s) calm.loose.quiet⟩
  · have taken : (s.forward d (.usage r w n)).takeUsage d r w n = u.raiseErrors d n := if_pos hn
    rw [taken] at answer
    obtain ⟨raised, occupancy, slight⟩ := raiseErrors_raised (s := s) (u := u) n entry rfl rfl
    exact ⟨_, answer, sentFirst_of_prefix (t := State.finish s (u.raiseErrors d n)) slight.sent, occupancy,
      fun _ => raised, fun h => absurd h (by omega), unchangedBut_of_quiet (s := s) slight.quiet⟩

/-- With a free entry in the table a drive's posting opens its prompt at once. -/
theorem post_drive_prompted (d : DriveId) (k : PromptKind) (p : PromptParams) (b : Bool)
    (h : s.desk.prompts.length < 32) : ∃ m, prompted (s.post (.drive d) k p b) m = some (k, .drive d) := by
  rw [post_eq, readied_drive, if_pos h]
  exact postNow_prompted s _ h

theorem intervention_asked (d : DriveId) : Asked (fun _ _ => False) s (s.intervention d) := by
  unfold State.intervention
  dsimp only
  split
  · exact post_drive_asked s d _ _ _
  · exact .refl s

/-- An INTERVENTION while LOADING asks for the drive's service (R34). -/
theorem intervention_prompted {d : DriveId} (hs : (s.drive d).state = .loading)
    (hp : (s.drive d).servicePrompt = none) (h : deskOpen s) :
    ∃ m, prompted (s.intervention d) m = some (.driveService, .drive d) := by
  have posts : s.intervention d = s.postDriveService d := by
    simp [State.intervention, hs, hp, State.isOwed, h.2]
  rw [posts]
  exact post_drive_prompted d _ _ _ h.1

theorem check_intervenes {d : DriveId} {c : CheckCode} (hr : s.reads d = true)
    (hc : c = .intervention ∨ c = .other) :
    ∃ t, exec (.check d c) s = .next t ∧
      sentFirst (.link (s.upwardLink d) (.status d (.check c))) s t ∧
      (t.drive d).errorCount = (s.drive d).errorCount ∧ (t.drive d).draining = (s.drive d).draining ∧
      (t.drive d).state = (s.drive d).state ∧
      (c = .intervention → (s.drive d).state = .loading → (s.drive d).servicePrompt = none → deskOpen s →
        asks t .driveService (.drive d)) ∧ unchangedBut aftermath s t := by
  have asked : Asked (fun _ _ => False) (s.forward d (.check c)) ((s.forward d (.check c)).takeCheck d c) := by
    rcases hc with rfl | rfl
    · exact intervention_asked d
    · exact .refl _
  have calm : Calm AnyJob True True _ (State.finish s ((s.forward d (.check c)).takeCheck d c)) := finish_calm_any _ s
  have entry : unaskedDrive (((s.forward d (.check c)).takeCheck d c).drive d) = unaskedDrive (s.drive d) :=
    asked.drive d
  have after := (calm.drive d).same.trans (calmDrive_congr entry)
  refine ⟨_, exec_check hr, sentFirst_of_prefix (t := State.finish s ((s.forward d (.check c)).takeCheck d c))
      (asked.sent.trans calm.sent), (congrArg Drive.errorCount after :), (congrArg Drive.draining after :),
    (congrArg Drive.state after :), fun h hs hp ho => ?_,
    unchangedBut_of_still ((finish_still _ s).trans asked.still)⟩
  subst h
  obtain ⟨m, hm⟩ := intervention_prompted (s := s.forward d (.check .intervention)) hs hp ho
  exact asks_of_prompted (calm.prompt m _ hm fun r hr => by simp at hr)

/-- Settles O44: errors are counted and compared, and what is compared stands at the end of the event. -/
theorem driveErrorsCounted : Obligations.DriveErrorsCounted := by
  intro s d
  exact ⟨fun hr _ _ hc => check_counts hr hc, fun hr _ hc => check_intervenes hr hc,
    fun hr r w n => usage_counts r w n hr, fun hr => ⟨fun _ => exec_check_unread hr, fun _ _ _ => exec_usage_unread hr⟩⟩

end Sys2Proof.DriveString
end

section
/-!
O55: what a DONE reply does (R33, R35, R99, R100, R104 to R107, R124 to R126).
-/

namespace Sys2Proof.DriveString

open Machine

variable {s t u : State}

/-! ### A reply is taken (R124 to R126) -/

/-- The state in which a reply has been accepted and the owner has forgotten its prompt. -/
def answered (s : State) (c : Console) (n : Nat) (o : Owner) : State := (s.answer c n).forget o n

theorem forget_asked {W : Nat → Owner → Prop} (o : Owner) (n : Nat) : Asked W s (s.forget o n) := by
  unfold State.forget
  dsimp only
  split
  · split
    · exact updateJob_asked _ _ _ fun _ => rfl
    · exact .refl s
  · exact updateArm_asked _ _ _ fun _ => rfl
  · exact updateDrive_asked _ _ _ fun _ => rfl
  · exact .refl s
  · exact .refl s

theorem answered_asked (c : Console) (n : Nat) (o : Owner) :
    Asked (fun m _ => m = n) s (answered s c n o) :=
  ((tellConsole_settled s c _).asked.trans (closePrompt_asked _ n .answered)).trans (forget_asked _ _)

theorem takeReply_accepted {c : Console} {n : Nat} {w : Word} {p : Prompt} (act : Prompt → State → State)
    (h : takes s c n w p) : takeReply c n w act s = .next (State.finish s (act p (answered s c n p.owner))) := by
  obtain ⟨hp, hn, hw⟩ := h
  have judged : s.judgeReply c n w = .accepted := by
    simp [State.judgeReply, State.judgeWord, hp, hn, hw]
  unfold takeReply
  rw [judged, hp]
  rfl

/-- An outcome reaches the job it is for (R125). -/
theorem toJob_eq {m : Nat} {i j : Job} (act : Nat → Job → State → State) (h : s.job? m = some i)
    (hs : i.sequence = j.sequence) : s.toJob (j.ref m) act = act m i s := by
  have live : s.liveJob (j.ref m) = some i := by
    simp [State.liveJob, Job.ref, h, hs]
  rw [State.toJob, live]
  rfl

/-! ### Volumes outside a holder (R4) -/

/-- A volume that moves to no holder displaces none. -/
theorem moveVolume_free {v : Nat} {e : Volume} {l : Location} (hv : s.volume? v = some e)
    (h : l.isHolder = false) : s.moveVolume v l = s.updateVolume v fun e => { e with location := l } := by
  rw [State.moveVolume, hv, State.displaceFrom, h]
  rfl

/-- A volume put on the SHELF stands there, and every other as it was. -/
theorem shelved {v : Nat} {e : Volume} (hv : s.volume? v = some e) :
    (s.moveVolume v .shelf).volume? v = some { e with location := .shelf } ∧
      (∀ w, w ≠ v → (s.moveVolume v .shelf).volume? w = s.volume? w) ∧
      s.moveVolume v .shelf = { s with map := (s.moveVolume v .shelf).map } := by
  rw [moveVolume_free hv rfl]
  refine ⟨by rw [updateVolume_volume, hv]; rfl, fun w hw => updateVolume_volume_ne s v w _ hw.symm, rfl⟩

theorem unchangedBut_map {m : VolumeMap} : unchangedBut [.map] s { s with map := m } := by
  refine ⟨fun b hb => ?_, rfl, rfl⟩
  cases b <;> first
    | exact absurd (by decide) hb
    | rfl

/-! ### Drives and hatch bays (R35, R104) -/

section
variable {W : Nat → Owner → Prop}

/-- DRIVE_SERVICE DONE (R35). -/
theorem driveService_done {d : DriveId} (a : Asked W s u) (hs : (s.drive d).state = .service) :
    let t := State.finish s (u.driveServiced d)
    (t.drive d).state = .empty ∧ (t.drive d).errorCount = 0 ∧ (t.drive d).draining = false ∧
      unchangedBut aftermath s t := by
  intro t
  have service : (u.drive d).state = .service := (congrArg Drive.state (a.drive d) :).trans hs
  have done : u.driveServiced d =
      (u.updateDrive d fun e => { e with errorCount := 0, draining := false, state := .empty }).evalDriveService := by
    rw [State.driveServiced, if_pos service]
  have entry : (u.driveServiced d).drive d =
      { u.drive d with errorCount := 0, draining := false, state := .empty } := by
    rw [done, State.evalDriveService, setLevel_same]
    exact updateDrive_drive _ _ _
  have after := ((finish_calm_any (u.driveServiced d) s).drive d).same
  rw [entry] at after
  refine ⟨(congrArg Drive.state after :), (congrArg Drive.errorCount after :), (congrArg Drive.draining after :),
    unchangedBut_of_still ((finish_still _ s).trans ?_)⟩
  rw [done, evalDriveService_still]
  exact a.still

/-- TAKE_FROM_HATCH DONE (R104). -/
theorem takeFromHatch_done {b : HatchBay} {v : Nat} {k : Option JobRef} {e : Volume} (a : Asked W s u)
    (hb : s.station.hatch.get b = .holding v k) (he : s.volume? v = some e) :
    let t := State.finish s (u.takenFromHatch b)
    t.volume? v = some { e with location := .shelf } ∧ (∀ w, w ≠ v → t.volume? w = s.volume? w) ∧
      (t.station.hatch.get b = .free ∨ ∃ r, t.station.hatch.get b = .reserved r) ∧
      unchangedBut (aftermath ++ [.map]) s t := by
  intro t
  have map : u.map = s.map := (congrArg Still.map a.still :)
  have taken : u.takenFromHatch b = (u.moveVolume v .shelf).setHatch b .free := by
    rw [State.takenFromHatch, a.station, hb]
    rfl
  obtain ⟨moved, others, same⟩ := shelved (s := u) ((volume_congr map v).trans he)
  have calm : Calm AnyJob True True (u.takenFromHatch b) t := finish_calm_any _ s
  have stands : t.map = (u.moveVolume v .shelf).map := calm.map.trans (by rw [taken]; rfl)
  refine ⟨(volume_congr stands v).trans moved,
    fun w hw => (volume_congr stands w).trans ((others w hw).trans (volume_congr map w)), ?_, ?_⟩
  · have free : (u.takenFromHatch b).station.hatch.get b = .free := by
      rw [taken]
      exact Bank.get_set_self _ _ _
    rcases calm.hatch b with h | ⟨-, r, h⟩
    · exact .inl (h.trans free)
    · exact .inr ⟨r, h⟩
  · refine unchangedBut_trans (unchangedBut_mono (unchangedBut_of_still a.still) (by decide)) ?_
    refine unchangedBut_trans (t := u.moveVolume v .shelf) ?_
      (unchangedBut_mono (unchangedBut_of_still ((finish_still _ s).trans (by rw [taken]; rfl))) (by decide))
    rw [same]
    exact unchangedBut_mono unchangedBut_map (by decide)

/-! ### Rings (R99, R100) -/

/-- FIT_RING and REMOVE_RING DONE. -/
theorem ring_done {m : Nat} {i : Job} {v : Nat} {e : Volume} {ring : RingState} (a : Asked W s u)
    (hi : u.job? m = some i) (hv : i.volume = some v) (he : s.volume? v = some e) :
    let t := State.finish s (u.ringChanged ring m i)
    t.volume? v = some { e with ring := ring } ∧
      (∃ j', t.job? m = some j' ∧ (j'.state = .waiting ∨ j'.state = .assigned)) ∧
      unchangedBut (aftermath ++ [.map]) s t := by
  intro t
  have map : u.map = s.map := (congrArg Still.map a.still :)
  let w := u.updateVolume v fun e => { e with ring := ring }
  have changed : u.ringChanged ring m i =
      (w.updateJob m fun j => { j with retryUsed := false }).setJobState m .waiting := by
    rw [State.ringChanged, hv]
  have calm : Calm NoJob True True (u.ringChanged ring m i) t := by
    refine finish_calm _ s (fun k => absurd trivial k) (.inr (freed_none ?_))
    rw [changed]
    exact a.station
  have listed : (u.ringChanged ring m i).job? m = some { i with
      retryUsed := false, state := .waiting, aging := .running u.policy.agingTicks } := by
    rw [changed, State.setJobState, updateJob_job, updateJob_job, show w.job? m = some i from hi]
    rfl
  obtain ⟨j', hj', c⟩ := calm.job m _ id listed
  have stands : t.map = w.map := calm.map.trans (by rw [changed]; rfl)
  refine ⟨?_, ⟨j', hj', (c.going ⟨.inl rfl, by simp [hv]⟩).1⟩, ?_⟩
  · rw [volume_congr stands, updateVolume_volume, volume_congr map, he]
    rfl
  · refine unchangedBut_trans (unchangedBut_mono (unchangedBut_of_still a.still) (by decide)) ?_
    refine unchangedBut_trans (t := w) (unchangedBut_mono unchangedBut_map (by decide)) ?_
    exact unchangedBut_mono (unchangedBut_of_still ((finish_still _ s).trans (by rw [changed]; rfl))) (by decide)

/-! ### A reel placed in the hatch (R105) -/

/-- With no bay free that was not free before none has become free. -/
theorem freed_none_of_bays (hr : t.station.ring = s.station.ring)
    (hh : ∀ b, t.station.hatch.get b = .free → s.station.hatch.get b = .free) :
    t.freedRings s = [] ∧ t.freedHatches s = [] := by
  simp only [State.freedRings, State.freedHatches, hr, List.filter_eq_nil_iff]
  refine ⟨fun b _ => by simp, fun b _ h => ?_⟩
  simp only [Bool.and_eq_true, decide_eq_true_eq] at h
  exact h.2 (hh b h.1)

/-- PLACE_IN_HATCH DONE. -/
theorem placeInHatch_done {m : Nat} {i : Job} {v : Nat} {e : Volume} {b : HatchBay} (a : Asked W s u)
    (hi : u.job? m = some i) (hv : i.volume = some v) (hb : i.hatchBay = some b) (he : s.volume? v = some e) :
    let t := State.finish s (u.placedInHatch m i)
    t.volume? v = some { e with location := .hatch b } ∧
      t.station.hatch.get b = .holding v (some (i.ref m)) ∧
      ∃ j', t.job? m = some j' ∧ (j'.state = .waiting ∨ j'.state = .assigned) := by
  intro t
  have map : u.map = s.map := (congrArg Still.map a.still :)
  let w := (u.moveVolume v (.hatch b)).setHatch b (.holding v (some (i.ref m)))
  have placed : u.placedInHatch m i = (w.updateJob m fun j =>
      { j with legs := [.hatchTake b, w.homeLeg j.volume], leg := 0, retryUsed := false }).setJobState m .waiting := by
    unfold State.placedInHatch
    simp only [hb, hv]
    rfl
  have station : w.station = { s.station with
      hatch := s.station.hatch.set b (.holding v (some (i.ref m))) } := by
    simp only [w]
    rw [moveVolume_same, ← a.station]
    rfl
  have bays : (u.placedInHatch m i).station = w.station := by rw [placed]; rfl
  have holds : (u.placedInHatch m i).station.hatch.get b = .holding v (some (i.ref m)) := by
    rw [bays, station]
    exact Bank.get_set_self _ _ _
  have calm : Calm NoJob True True (u.placedInHatch m i) t := by
    refine finish_calm _ s (fun k => absurd trivial k) (.inr (freed_none_of_bays ?_ fun c hc => ?_))
    · rw [bays, station]
    · by_cases k : b = c
      · subst k
        rw [holds] at hc
        simp at hc
      · rw [bays, station] at hc
        rwa [Bank.get_set_ne _ _ _ _ k] at hc
  have found : w.job? m = some i := by
    simp only [w]
    rw [moveVolume_same]
    exact hi
  have listed : (u.placedInHatch m i).job? m = some { i with
      legs := [.hatchTake b, w.homeLeg i.volume], leg := 0, retryUsed := false, state := .waiting
      aging := .running u.policy.agingTicks } := by
    rw [placed, State.setJobState, updateJob_job, updateJob_job, found]
    have policy : w.policy = u.policy := by simp only [w]; rw [moveVolume_same]; rfl
    simp [policy]
  obtain ⟨j', hj', c⟩ := calm.job m _ id listed
  have stands : t.map = (u.moveVolume v (.hatch b)).map := calm.map.trans (by rw [placed]; rfl)
  refine ⟨?_, ?_, ⟨j', hj', (c.going ⟨.inl rfl, by simp [hv]⟩).1⟩⟩
  · rw [volume_congr stands, moveVolume_volume, volume_congr map, he]
    rfl
  · rcases calm.hatch b with h | ⟨h, -⟩
    · exact h.trans holds
    · rw [holds] at h
      simp at h

/-! ### Reels mounted and taken out by hand (R33, R106, R107) -/

/-- MOUNT_BY_HAND DONE. -/
theorem mountByHand_done {m : Nat} {i : Job} {v : Nat} {e : Volume} {d : DriveId} (a : Asked W s u)
    (hi : u.job? m = some i) (hv : i.volume = some v) (hd : i.drive = some d) (he : s.volume? v = some e) :
    let t := State.finish s (u.mountedByHand m i)
    t.volume? v = some { e with location := .drive d } ∧ (t.drive d).state = .loading ∧
      (t.drive d).loadTimer = .running (64 * (2 ^ s.policy.loadTimeout * 4)) ∧
      ∃ j', t.job? m = some j' ∧ j'.state = .loading := by
  intro t
  have map : u.map = s.map := (congrArg Still.map a.still :)
  let w := u.moveVolume v (.drive d)
  have mounted : u.mountedByHand m i = (w.updateDrive d fun e =>
      { e with state := .loading, loadTimer := .running w.policy.loadTicks }).setJobState m .loading := by
    simp only [State.mountedByHand, hd, hv]
    rfl
  have calm : Calm NoJob True True (u.mountedByHand m i) t := by
    refine finish_calm _ s (fun k => absurd trivial k) (.inr (freed_none ?_))
    rw [mounted]
    change w.station = _
    simp only [w]
    rw [moveVolume_same]
    exact a.station
  have found : w.job? m = some i := by
    simp only [w]
    rw [moveVolume_same]
    exact hi
  have listed : (u.mountedByHand m i).job? m = some { i with state := .loading, aging := .stopped } := by
    rw [mounted, State.setJobState, updateJob_job]
    exact congrArg (Option.map _) found
  have entry : (u.mountedByHand m i).drive d =
      { w.drive d with state := .loading, loadTimer := .running w.policy.loadTicks } := by
    rw [mounted]
    exact updateDrive_drive w d _
  have policy : w.policy = s.policy := by
    simp only [w]
    rw [moveVolume_same]
    exact (congrArg Still.policy a.still :)
  have after := calm.drive d
  rw [entry, policy] at after
  obtain ⟨j', hj', c⟩ := calm.job m _ id listed
  have stands : t.map = w.map := calm.map.trans (by rw [mounted]; rfl)
  refine ⟨?_, after.state, (congrArg Drive.loadTimer after.same :), j', hj', (congrArg Job.state (c.steady trivial) :)⟩
  rw [volume_congr stands, moveVolume_volume, volume_congr map, he]
  rfl

/-- An arm given back leaves the drives but for their prompts. -/
theorem armGivenBack_drive (j : Job) (d : DriveId) :
    unaskedDrive ((armGivenBack s j).drive d) = unaskedDrive (s.drive d) := by
  have disabled (w : State) (x : ArmId) : unaskedDrive ((w.disableCore x).drive d) = unaskedDrive (w.drive d) := by
    unfold State.disableCore State.postArmFault
    dsimp only
    rw [(post_arm_asked (W := fun _ _ => False) _ _ _ _ _).drive, State.evalArmState, setLevel_same, logError_same]
    cases x <;> rfl
  unfold armGivenBack State.giveBackArm
  split
  · next x _ =>
    dsimp only
    split
    · split
      · rw [State.evalArmState, setLevel_same]
        cases x <;> rfl
      · rw [disabled]
        cases x <;> rfl
    · cases x <;> rfl
  · rfl

/-- A drive that is EMPTY when its job leaves has no job then (R44). -/
theorem driveJobEnded_empty {m : Nat} {d : DriveId} (hs : (s.drive d).state = .empty)
    (hn : (s.drive d).job = some m) : (s.driveJobEnded m d).drive d = { s.drive d with job := none } := by
  simp [State.driveJobEnded, hs, hn]

/-- The end of a job leaves its EMPTY drive EMPTY, with no job. -/
theorem endJob_drive_empty {m : Nat} {i : Job} {d : DriveId} (frame : Option Lifecycle)
    (hi : s.job? m = some i) (hd : i.drive = some d) (hs : (s.drive d).state = .empty)
    (hn : (s.drive d).job = some m) :
    ((s.endJob m frame).drive d).state = .empty ∧ ((s.endJob m frame).drive d).job = none := by
  obtain ⟨w, e, told⟩ := leaving_drive (s := s) (n := m) frame hd
  have state : (w.drive d).state = .empty := (congrArg Drive.state e :).trans hs
  have left : (struckOff (leaving s m i frame) m).drive d = { w.drive d with job := none } :=
    told.trans (driveJobEnded_empty state ((congrArg Drive.job e :).trans hn))
  have raised := (endRaised_calm (struckOff (leaving s m i frame) m) (leaving s m i frame) i frame).drive d
  rw [left] at raised
  have given := armGivenBack_drive (s := endRaised (struckOff (leaving s m i frame) m) (leaving s m i frame) i frame) i d
  rw [endJob_eq s frame hi]
  exact ⟨(congrArg Drive.state given :).trans (raised.state.trans state),
    (congrArg Drive.job given :).trans (raised.job_kept (by simp [state]) (by simp [state]))⟩

/-- DEMOUNT_BY_HAND DONE for a DEMOUNT. -/
theorem demountByHand_done {m : Nat} {i : Job} {v : Nat} {e : Volume} {d : DriveId} {p : PromptParams}
    (a : Asked W s u) (hi : u.job? m = some i) (hk : i.kind = .demount) (hc : i.cancelled = false)
    (hp : p.drive = some d) (hl : s.locatedAt (.drive d) = some v) (hd : i.drive = some d)
    (hs : (s.drive d).state = .awaitingPull) (hdr : (s.drive d).draining = false)
    (hdue : notDue (s.drive d)) (hn : (s.drive d).job = some m) (he : s.volume? v = some e) :
    let t := State.finish s (u.demountedByHand p m i)
    t.volume? v = some { e with location := .shelf } ∧ (t.drive d).state = .empty ∧
      (t.drive d).job = none ∧ toldOrigin m i .demountComplete s t := by
  intro t
  have map : u.map = s.map := (congrArg Still.map a.still :)
  obtain ⟨moved, -, same⟩ := shelved (s := u) ((volume_congr map v).trans he)
  let w := u.moveVolume v .shelf
  have drive : w.drive d = u.drive d := by simp only [w]; rw [same]; rfl
  have entry : unaskedDrive (w.drive d) = unaskedDrive (s.drive d) := by rw [drive]; exact a.drive d
  have awaits : (w.drive d).state = .awaitingPull := (congrArg Drive.state entry :).trans hs
  have draining : (w.drive d).draining = false := (congrArg Drive.draining entry :).trans hdr
  have due : notDue (w.drive d) := by
    have k : notDue (unaskedDrive (w.drive d)) := by rw [entry]; exact hdue
    exact k
  have located : u.locatedAt (.drive d) = some v := by
    rw [State.locatedAt, map]
    exact hl
  have taken : u.takenByHand d = w := by rw [State.takenByHand, located]
  have acts : u.demountedByHand p m i = (w.emptyDrive d).endJob m (some .demountComplete) := by
    simp only [State.demountedByHand, hp, hk, hd, taken, awaits, if_true, Option.isNone_some,
      Bool.false_eq_true, if_false]
  have emptied := emptyDrive_eq draining due
  have found : (w.emptyDrive d).job? m = some i := by
    rw [emptied]
    change w.job? m = some i
    simp only [w]
    rw [same]
    exact hi
  have state : ((w.emptyDrive d).drive d).state = .empty := by rw [emptyDrive_drive draining due]
  have job : ((w.emptyDrive d).drive d).job = some m := by
    rw [emptyDrive_drive draining due]
    exact (congrArg Drive.job entry :).trans hn
  obtain ⟨stands, unnamed⟩ := endJob_drive_empty (some .demountComplete) found hd state job
  have calm : Calm AnyJob True True (u.demountedByHand p m i) t := finish_calm_any _ s
  have after := calm.drive d
  have sent := calm.sent
  have mapped := calm.map
  rw [acts] at after sent mapped
  have ended := endJob_loose (w.emptyDrive d) m (some .demountComplete)
  have kept : (w.emptyDrive d).map = w.map := by rw [emptied]; rfl
  have before : s.sent <+: (w.emptyDrive d).sent := by
    rw [emptied]
    refine a.sent.trans ?_
    change u.sent <+: w.sent
    simp only [w]
    rw [same]
  refine ⟨?_, after.state.trans stands,
    (after.job_kept (by rw [stands]; simp) (by rw [stands]; simp)).trans unnamed,
    toldOrigin_between before (endJob_told (frame := some .demountComplete) found (outcome_given _ hc)) sent⟩
  rw [volume_congr (mapped.trans ((congrArg Still.map ended.quiet :).trans kept))]
  exact moved

end

/-- Settles O55, by the prompt that is answered. -/
theorem doneActs : Obligations.DoneActs := by
  intro s c n q h
  have a := answered_asked (s := s) c n q.owner
  have answer := takeReply_accepted State.actDone h
  generalize answered s c n q.owner = u at a answer
  refine ⟨_, answer, fun d hk ho hs => ?_, fun b v k e hk ho hb he => ?_, fun m j v e ho hj hv he => ?_⟩
  · simpa only [State.actDone, hk, ho] using driveService_done a hs
  · simpa only [State.actDone, hk, ho] using takeFromHatch_done a hb he
  · obtain ⟨p, hp⟩ := a.job_some hj
    have told (act : Nat → Job → State → State) : u.toJob (j.ref m) act = act m { j with prompt := p } u :=
      toJob_eq act hp rfl
    refine ⟨fun hk => ?_, fun hk => ?_, fun b hk hb => ?_, fun d hk hd => ?_,
      fun d hk hkind hc hpd hl hd hs hdr hdue hn => ?_⟩ <;> simp only [State.actDone, hk, ho, told]
    · exact ring_done a hp hv he
    · exact ring_done a hp hv he
    · exact placeInHatch_done a hp hv hb he
    · exact mountByHand_done a hp hv hd he
    · exact demountByHand_done a hp hkind hc hpd hl hd hs hdr hdue hn he

end Sys2Proof.DriveString
end

section
/-!
O36: a second advance onto an hour (R36, R134, R135).
-/

namespace Sys2Proof.DriveString

open Machine

variable {s t : State}

/-! ### One advance (R134, R141, R148) -/

/-- What a second's accrual leaves: all but the occupancies and the accounts. -/
structure Accrued (s t : State) : Prop where
  same : t = { s with drives := t.drives, accounting := t.accounting }
  drive : ∀ d, t.drive d = { s.drive d with occupancy := (t.drive d).occupancy }

theorem Accrued.refl (s : State) : Accrued s s := ⟨rfl, fun _ => rfl⟩

theorem Accrued.trans {u : State} (h : Accrued s t) (k : Accrued t u) : Accrued s u where
  same := by rw [k.same, h.same]
  drive d := by rw [k.drive, h.drive]

theorem accrueDrive_accrued (n : Nat) (d : DriveId) : Accrued s (s.accrueDrive n d) := by
  unfold State.accrueDrive
  split
  · next o _ =>
    let u := s.updateDrive d fun e => { e with occupancy := some (o.accrue (s.accounting.active.band n)) }
    have entry (c : DriveId) : u.drive c = { s.drive c with occupancy := (u.drive c).occupancy } := by
      by_cases h : d = c
      · subst h; rw [updateDrive_drive]
      · rw [updateDrive_drive_ne _ _ _ _ h]
    exact ⟨rfl, entry⟩
  · exact .refl s

theorem accrue_accrued (n : Nat) : Accrued s (s.accrue n) := by
  have run (l : List DriveId) : ∀ u : State, Accrued u (l.foldl (State.accrueDrive n) u) := by
    induction l with
    | nil => exact .refl
    | cons d rest ih => exact fun u => (accrueDrive_accrued n d).trans (ih _)
  exact run allDrives s

/-- The part of an advance that follows the accrual. -/
def advanced (s : State) : State :=
  let s := { s with clock := s.clock.nextSecond }
  let s := if s.clock.second % 3600 = 0 then { s with drives := s.drives.map Drive.hour } else s
  if s.clock.closes s.clock.second then s.periodClose else s

theorem advanceOnce_eq : s.advanceOnce = advanced (s.accrue s.clock.second) := rfl

theorem nextSecond_manual {c : Clock} (h : c.closeMode = .manual) (n : Nat) : c.nextSecond.closes n = false := by
  have manual : c.nextSecond.closeMode = .manual := by
    unfold Clock.nextSecond
    split <;> exact h
  simp [Clock.closes, manual]

/-- A clock in MANUAL raises no close (R141). -/
theorem advanced_manual (h : s.clock.closeMode = .manual) : advanced s =
    if s.clock.nextSecond.second % 3600 = 0 then
      { s with clock := s.clock.nextSecond, drives := s.drives.map Drive.hour }
    else { s with clock := s.clock.nextSecond } := by
  have closes := nextSecond_manual h
  unfold advanced
  dsimp only
  split
  · exact if_neg (by rw [closes]; simp)
  · exact if_neg (by rw [closes]; simp)

/-- The error count of a drive after an advance (R36). -/
def hourCount (hour : Bool) (e : Drive) : Nat :=
  if hour && e.configured then e.errorCount - 1 else e.errorCount

/-- An advance of a clock in MANUAL: the next second, and the error counts lowered on the hour (R36, R134). -/
theorem advanceOnce_manual (h : s.clock.closeMode = .manual) :
    s.advanceOnce = { s with
      drives := s.advanceOnce.drives, accounting := s.advanceOnce.accounting, clock := s.clock.nextSecond } ∧
      ∀ d, (s.advanceOnce.drive d).configured = (s.drive d).configured ∧ (s.advanceOnce.drive d).errorCount =
        hourCount (s.clock.nextSecond.second % 3600 = 0) (s.drive d) := by
  have a : Accrued s (s.accrue s.clock.second) := accrue_accrued _
  rw [advanceOnce_eq]
  generalize s.accrue s.clock.second = u at a
  have clock : u.clock = s.clock := by rw [a.same]
  rw [advanced_manual (clock ▸ h), clock]
  split
  · next hour =>
    refine ⟨by rw [a.same], fun d => ?_⟩
    have entry : (u.drives.map Drive.hour).get d = Drive.hour (u.drive d) := Bank.get_map _ _ _
    change ((u.drives.map Drive.hour).get d).configured = _ ∧ ((u.drives.map Drive.hour).get d).errorCount = _
    rw [entry, a.drive d]
    unfold Drive.hour hourCount
    cases configured : (s.drive d).configured <;> simp [hour, configured]
  · next hour =>
    refine ⟨by rw [a.same], fun d => ?_⟩
    change (u.drive d).configured = _ ∧ (u.drive d).errorCount = _
    rw [a.drive d]
    simp [hourCount, hour]

/-! ### Compensation (R135) -/

/-- The clock after the compensation of an hour whose tick count is 0. -/
def compensated (c : Clock) : Clock :=
  if 64 ≤ c.compensation then { c with second := c.second + 1, tick := c.compensation.toNat - 64 }
  else if 0 < c.compensation then { c with tick := c.compensation.toNat }
  else if c.compensation < 0 then { c with ticksToDrop := (-c.compensation).toNat }
  else c

/-- The compensation on an hour changes the clock, and by its further advance occupancies and accounts. -/
theorem compensate_manual (h : s.clock.closeMode = .manual) (hour : s.clock.second % 3600 = 0)
    (ht : s.clock.tick = 0) :
    s.compensate = { s with
      drives := s.compensate.drives, accounting := s.compensate.accounting, clock := compensated s.clock } ∧
      ∀ d, (s.compensate.drive d).errorCount = (s.drive d).errorCount := by
  unfold State.compensate compensated
  dsimp only
  rw [ht, Nat.zero_add]
  by_cases pos : 0 < s.clock.compensation
  · rw [if_pos pos]
    by_cases carries : 63 < s.clock.compensation.toNat
    · rw [if_pos carries, if_pos (by omega)]
      let v : State := { s with clock := { s.clock with tick := s.clock.compensation.toNat - 64 } }
      have next : v.clock.nextSecond =
          { s.clock with second := s.clock.second + 1, tick := s.clock.compensation.toNat - 64 } :=
        if_neg (show ¬s.clock.second = 86399 by omega)
      obtain ⟨same, counts⟩ := advanceOnce_manual (s := v) h
      rw [next] at same counts
      have within : decide ((s.clock.second + 1) % 3600 = 0) = false := decide_eq_false (by omega)
      refine ⟨same, fun d => ?_⟩
      rw [(counts d).2]
      change hourCount (decide ((s.clock.second + 1) % 3600 = 0)) (s.drive d) = _
      rw [within]
      rfl
    · rw [if_neg carries, if_neg (by omega), if_pos pos]
      exact ⟨rfl, fun _ => rfl⟩
  · rw [if_neg pos, if_neg (show ¬64 ≤ s.clock.compensation by omega), if_neg pos]
    by_cases neg : s.clock.compensation < 0
    · rw [if_pos neg, if_pos neg]
      exact ⟨rfl, fun _ => rfl⟩
    · rw [if_neg neg, if_neg neg]
      exact ⟨rfl, fun _ => rfl⟩

/-- The clock on the hour, before its compensation. -/
def hourClock (c : Clock) : Clock :=
  ({ c with ticksToDrop := 0, tick := 0 } : Clock).nextSecond

theorem hourClock_eq (c : Clock) : hourClock c = { c with
    second := if c.second = 86399 then 0 else c.second + 1
    day := if c.second = 86399 then (c.day + 1) % 65536 else c.day, tick := 0, ticksToDrop := 0 } := by
  unfold hourClock Clock.nextSecond
  dsimp only
  split <;> rfl

/-- What a carry does once its advance is made (R135). -/
def hourly (s : State) : State := if s.clock.second % 3600 = 0 then s.compensate else s

theorem carry_eq : s.carry = hourly (State.advanceOnce { s with clock := { s.clock with tick := 0 } }) := by
  simp only [State.carry, hourly]

/-- A carry onto an hour, of a clock in MANUAL with no ticks to drop (R36, R134, R135). -/
theorem carry_hour (h : s.clock.closeMode = .manual) (hd : s.clock.ticksToDrop = 0)
    (hour : (s.clock.second + 1) % 3600 = 0) :
    s.carry = { s with
      drives := s.carry.drives, accounting := s.carry.accounting, clock := compensated (hourClock s.clock) } ∧
      ∀ d, (s.carry.drive d).errorCount = hourCount true (s.drive d) := by
  let v : State := { s with clock := { s.clock with tick := 0 } }
  have next : v.clock.nextSecond = hourClock s.clock := by
    simp only [v, hourClock, hd]
  have second : (hourClock s.clock).second % 3600 = 0 := by
    rw [hourClock_eq]
    dsimp only
    split <;> omega
  obtain ⟨same, counts⟩ := advanceOnce_manual (s := v) h
  rw [next] at same counts
  have manual : (hourClock s.clock).closeMode = .manual := by rw [hourClock_eq]; exact h
  have carried := carry_eq (s := s)
  generalize State.advanceOnce _ = a at same counts carried
  have clock : a.clock = hourClock s.clock := by rw [same]
  have tick : a.clock.tick = 0 := by rw [clock, hourClock_eq]
  obtain ⟨both, kept⟩ := compensate_manual (s := a) (by rw [clock]; exact manual) (by rw [clock]; exact second) tick
  rw [carried, hourly, if_pos (by rw [clock]; exact second)]
  refine ⟨?_, fun d => ?_⟩
  · rw [both, clock]
    rw [same]
  · rw [kept, (counts d).2, decide_eq_true second]
    rfl

/-! ### The command -/

theorem exec_secondAdvance (h : s.clock.state = .running) : exec .secondAdvance s =
    .next (State.finish s (State.carry { s.lowerTimers s.clock.ticksToCarry with
      clock := { s.clock with ticksToDrop := 0 } })) := by
  change execSecondAdvance s = _
  simp only [execSecondAdvance, h, reduceCtorEq, if_false]

/-- The timers lowered and the clock moved, a state differs from `s` in blocks of the aftermath. -/
theorem unchangedBut_advanced {n : Nat} {c : Clock} {b : Bank Drive 16} {a : Accounting} :
    unchangedBut (aftermath ++ [.clock, .accounting]) s
      { s.lowerTimers n with clock := c, drives := b, accounting := a } := by
  refine ⟨fun k hk => ?_, rfl, rfl⟩
  cases k <;> first
    | exact absurd (by decide) hk
    | rfl

/-- What a second advance onto an hour leaves, with no close raised. -/
theorem secondAdvance_hour (running : s.clock.state = .running) (hour : (s.clock.second + 1) % 3600 = 0)
    (manual : s.clock.closeMode = .manual) : ∃ t, exec .secondAdvance s = .next t ∧
      (∀ d, (t.drive d).errorCount = hourCount true (s.drive d)) ∧
      t.clock = compensated (hourClock s.clock) ∧ unchangedBut (aftermath ++ [.clock, .accounting]) s t := by
  have answer := exec_secondAdvance running
  have clock : hourClock { s.clock with ticksToDrop := 0 } = hourClock s.clock := rfl
  obtain ⟨same, counts⟩ := carry_hour (s := { s.lowerTimers s.clock.ticksToCarry with
    clock := { s.clock with ticksToDrop := 0 } }) manual rfl hour
  have lowered (d : DriveId) : (s.lowerTimers s.clock.ticksToCarry).drive d =
      (s.drive d).lowerTimers s.clock.ticksToCarry := Bank.get_map _ _ _
  generalize State.carry _ = w at answer same counts
  have calm : Calm AnyJob True True w (State.finish s w) := finish_calm_any w s
  refine ⟨_, answer, fun d => ?_, ?_, ?_⟩
  · refine (congrArg Drive.errorCount (calm.drive d).same :).trans ((counts d).trans ?_)
    exact (congrArg (hourCount true) (lowered d) :)
  · refine (congrArg Still.clock (finish_still w s) :).trans ?_
    change w.clock = _
    rw [same]
    exact congrArg compensated clock
  · refine unchangedBut_trans (t := w) ?_ (unchangedBut_mono (unchangedBut_of_bare calm.bare) (by decide))
    rw [same]
    exact unchangedBut_advanced

/-- The clock after an hour and its compensation, by the compensation's range (R134, R135). -/
theorem compensated_hour (k : Clock) : let t := compensated (hourClock k)
    let c := k.compensation
    let second := if k.second = 86399 then 0 else k.second + 1
    t.day = (if k.second = 86399 then (k.day + 1) % 65536 else k.day) ∧ t.compensation = c ∧ t.state = k.state ∧
      (c = 0 → t.second = second ∧ t.tick = 0 ∧ t.ticksToDrop = 0) ∧
      (0 < c → c ≤ 63 → t.second = second ∧ (t.tick : Int) = c ∧ t.ticksToDrop = 0) ∧
      (64 ≤ c → c ≤ 127 → t.second = second + 1 ∧ (t.tick : Int) = c - 64 ∧ t.ticksToDrop = 0) ∧
      (c < 0 → t.second = second ∧ t.tick = 0 ∧ (t.ticksToDrop : Int) = -c) := by
  rw [hourClock_eq]
  generalize (if k.second = 86399 then 0 else k.second + 1) = second
  generalize (if k.second = 86399 then (k.day + 1) % 65536 else k.day) = day
  unfold compensated
  dsimp only
  split
  · exact ⟨rfl, rfl, rfl, fun _ => by omega, fun _ _ => by omega,
      fun _ _ => ⟨rfl, by dsimp only; omega, rfl⟩, fun _ => by omega⟩
  · split
    · exact ⟨rfl, rfl, rfl, fun _ => by omega, fun _ _ => ⟨rfl, by dsimp only; omega, rfl⟩,
        fun _ _ => by omega, fun _ => by omega⟩
    · split
      · exact ⟨rfl, rfl, rfl, fun _ => by omega, fun _ _ => by omega, fun _ _ => by omega,
          fun _ => ⟨rfl, rfl, by dsimp only; omega⟩⟩
      · exact ⟨rfl, rfl, rfl, fun _ => ⟨rfl, rfl, rfl⟩, fun _ _ => by omega, fun _ _ => by omega,
          fun _ => by omega⟩

/-- Settles O36: the carry is read off, and what follows the event leaves clock and error counts. -/
theorem hourPassed : Obligations.HourPassed := by
  intro s running _ hour manual
  obtain ⟨t, answer, counts, clock, rest⟩ := secondAdvance_hour running hour manual
  obtain ⟨day, compensation, state, ranges⟩ := compensated_hour s.clock
  rw [← clock] at day compensation state ranges
  refine ⟨t, answer, fun d => ?_, ⟨day, compensation, state.trans running, ranges⟩, rest⟩
  rw [counts d]
  simp [hourCount]

end Sys2Proof.DriveString
end

section
/-!
O27: LOAD_DRIVES (R23).
-/

namespace Sys2Proof.DriveString

open Machine

variable {s t : State}

/-! ### LOAD_DRIVES -/

theorem inRange_val {n : Nat} (k : Fin n) : inRange n k.val = some k := by simp [inRange]

theorem exec_loadDrives {l : Link} {tag : Nat} {i : DriveItem} (hp : permits s l)
    (hm : s.mode.takesLoads = true) : exec (.loadDrives l tag [i]) s =
      .next ((driveItem 1 i s).1.respond l tag .loadDrives (itemsResult (driveItem 1 i s).2.toList)) := by
  change execLoadDrives l tag [i] s = _
  rw [execLoadDrives, managed_permitted s l tag _ _ hp, if_pos hm, takeItems_one]

theorem exec_loadDrives_wrongMode {l : Link} {tag : Nat} {i : DriveItem} (hp : permits s l)
    (hm : s.mode.takesLoads = false) :
    exec (.loadDrives l tag [i]) s = .next (s.respond l tag .loadDrives .wrongMode) := by
  change execLoadDrives l tag [i] s = _
  rw [execLoadDrives, managed_permitted s l tag _ _ hp, hm, if_neg Bool.false_ne_true]

/-- Making a drive unconfigured that holds a reel or has a job (R23). -/
def Busy (e : Drive) (i : DriveItem) : Prop :=
  e.configured = true ∧ i.configured = false ∧ (e.state ≠ .empty ∨ e.job ≠ none)

section
variable {i : DriveItem} {d : DriveId} {k : Fin 4}

theorem driveItem_eq (hd : i.drive = d.val) (hk : i.driveClass = k.val) (hl : i.owningLink ≤ 7) (p : Nat) :
    driveItem p i s =
      if (s.drive d).configured && !i.configured && ((s.drive d).state ≠ .empty || (s.drive d).job.isSome) then
        (s, some (.refused p .driveBusy))
      else (s.updateDrive d fun e => { e with
        configured := i.configured, driveClass := k, owningLink := i.owningLink
        autoDemount := i.autoDemount, threshold := max 1 i.threshold, cleanInterval := i.cleanInterval }, none) := by
  simp only [driveItem, hd, hk, inRange_val, Nat.not_lt.mpr hl, if_false]

theorem busy_iff (e : Drive) : Busy e i ↔
    (e.configured && !i.configured && (e.state ≠ .empty || e.job.isSome)) = true := by
  simp [Busy, Option.isSome_iff_ne_none, and_assoc]

theorem driveItem_taken (hd : i.drive = d.val) (hk : i.driveClass = k.val) (hl : i.owningLink ≤ 7) (p : Nat)
    (h : ¬Busy (s.drive d) i) : driveItem p i s = (s.updateDrive d fun e => { e with
      configured := i.configured, driveClass := k, owningLink := i.owningLink
      autoDemount := i.autoDemount, threshold := max 1 i.threshold, cleanInterval := i.cleanInterval }, none) := by
  rw [driveItem_eq hd hk hl, if_neg (by rwa [← busy_iff])]

theorem driveItem_busy (hd : i.drive = d.val) (hk : i.driveClass = k.val) (hl : i.owningLink ≤ 7) (p : Nat)
    (h : Busy (s.drive d) i) : driveItem p i s = (s, some (.refused p .driveBusy)) := by
  rw [driveItem_eq hd hk hl, if_pos (by rwa [← busy_iff])]

end

/-- Settles O27, by the two outcomes of the item. -/
theorem drivesLoaded : Obligations.DrivesLoaded := by
  intro s l tag i d k hp hd hk hl
  refine ⟨fun hm => ⟨fun h => ?_, fun hc hi hb => ?_⟩, fun hm => exec_loadDrives_wrongMode hp hm⟩
  · have answer := exec_loadDrives (tag := tag) (i := i) hp hm
    rw [driveItem_taken hd hk hl 1 h] at answer
    refine ⟨_, answer, updateDrive_drive s d _, fun d' hd' => updateDrive_drive_ne s d d' _ hd'.symm, ?_, rfl⟩
    refine ⟨fun b hb => ?_, rfl, rfl⟩
    cases b <;> first
      | exact absurd (by decide) hb
      | rfl
  · rw [exec_loadDrives hp hm, driveItem_busy hd hk hl 1 ⟨hc, hi, hb⟩]
    rfl

end Sys2Proof.DriveString
end

section
/-!
O45: the other frames of the drive string, the robot link and the console lines (R20, R124, R129, R193).
-/

namespace Sys2Proof.DriveString

open Machine

variable {s t : State} {f : WireFrame}

/-! ### A frame is discarded and logged -/

theorem sendNotice_sent (c : NoticeClass) (d : NoticeData) :
    (s.sendNotice c d).sent = s.sent ++ [.link s.notices.link (.notice d)] := rfl

/-- Logging an error sends at most its NOTICE (R199). -/
theorem logError_sentThenNotices (k : ErrorKind) (c : ErrorSeverity) (g : ErrorFields) :
    sentThenNotices [] s (s.logError k c g) := by
  unfold State.logError State.raiseEvent
  dsimp only
  split
  · exact ⟨[.link s.notices.link (.notice (.errorLogged (s.errorEntry k c g).number k))],
      by rw [sendNotice_sent, List.append_nil], fun f hf => ⟨_, List.mem_singleton.mp hf⟩⟩
  · exact ⟨[], by simp, fun f hf => absurd hf (List.not_mem_nil)⟩

theorem logged_logError (k : ErrorKind) (c : ErrorSeverity) (g : ErrorFields) : logged k c s (s.logError k c g) :=
  logged_of_still rfl

/-- A command that does nothing but log an error discards its frame. -/
theorem discards {i : Instr} {k : ErrorKind} {g : ErrorFields} (h : exec i s = .next (s.logError k .link g)) :
    ∃ t, exec i s = .next t ∧ logged k .link s t ∧ sentThenNotices [] s t ∧
      unchangedBut [.errors, .notices] s t :=
  ⟨_, h, logged_logError _ _ _, logError_sentThenNotices _ _ _, unchangedBut_logError _ _ _⟩

/-! ### The drive string (R20) -/

theorem exec_driveStatus (d : DriveId) : exec (.driveStatus d f) s =
    if f.crcGood = false then .next (s.logError .badCheck .link { drive := some d })
    else if f.destination = 16#8 then .next s
    else .next (s.forward d (.other f)) := by
  change execDriveStatus d f s = _
  rw [execDriveStatus]
  cases f.crcGood <;> rfl

theorem upwardLink_unconfigured {d : DriveId} (h : (s.drive d).configured = false) : s.upwardLink d = 0 := by
  simp [State.upwardLink, h]

theorem upwardLink_owning {d : DriveId} {l : Link} (h : (s.drive d).configured = true)
    (hl : (s.drive d).owningLink = l.val) : s.upwardLink d = l := by
  simp [State.upwardLink, h, hl, inRange_val]

/-! ### The form of a frame on the robot link or a console line (R193) -/

theorem train_onePart_iff (b : Byte) : b.toNat / 16 = 1 ∧ b.toNat % 16 = 1 ↔ b = 17#8 := by
  rw [← BitVec.toNat_inj]
  change _ ↔ b.toNat = 17
  omega

theorem lineFormGood_iff {kinds : List FrameKind} {carried : FrameKind → Bool}
    (h : ∀ k, carried k = true ↔ k ∈ kinds) : f.lineFormGood carried = true ↔ goodLineForm kinds f := by
  have dest : f.destination = 16#8 ↔ f.destination.toNat = 16 := by rw [← BitVec.toNat_inj]; rfl
  have train := train_onePart_iff f.train
  simp only [WireFrame.lineFormGood, WireFrame.lengthGood, WireFrame.trainGood, WireFrame.onePart,
    Bool.and_eq_true, decide_eq_true_eq, h, dest, goodLineForm]
  simp only [WireFrame.trainTotal, WireFrame.trainPart]
  constructor
  · rintro ⟨⟨⟨⟨hd, hl, hp⟩, -⟩, ht⟩, hk⟩
    exact ⟨hl, hp, hd, train.mp ht, hk⟩
  · rintro ⟨hl, hp, hd, ht, hk⟩
    obtain ⟨total, part⟩ := train.mpr ht
    exact ⟨⟨⟨⟨hd, hl, hp⟩, by omega⟩, total, part⟩, hk⟩

theorem lineFormGood_false {kinds : List FrameKind} {carried : FrameKind → Bool}
    (h : ∀ k, carried k = true ↔ k ∈ kinds) (hn : ¬goodLineForm kinds f) : f.lineFormGood carried = false := by
  rw [← lineFormGood_iff h] at hn
  simpa using hn

theorem robotKinds_iff (k : FrameKind) : robotKinds k = true ↔ k ∈ [FrameKind.completion] := by simp [robotKinds]

theorem consoleKinds_iff (k : FrameKind) :
    consoleKinds k = true ↔ k ∈ [FrameKind.reply, .recall, .refresh] := by simp [consoleKinds, or_assoc]

/-! ### The robot link (R193) -/

theorem exec_robotLinkFrame : exec (.robotLinkFrameDiscarded f) s =
    if f.crcGood = false then .next (s.logError .badCheck .link { detail := some .robotLink })
    else if f.lineFormGood robotKinds = false then
      .next (s.logError .badFrame .link { detail := some (.robotLinkKind f.kindName) })
    else s.takeCompletion f := by
  change execRobotLinkFrameDiscarded f s = _
  rw [execRobotLinkFrameDiscarded]
  cases f.crcGood <;> cases f.lineFormGood robotKinds <;> rfl

theorem completionPosition_le (p : List Byte) : completionPosition p ≤ 1023 := by
  unfold completionPosition
  dsimp only
  split
  · assumption
  · exact Nat.le_of_lt_succ (Config.positionRead p).isLt

/-- What a completion's payload of at least 6 bytes gives. -/
theorem completion_payload (b0 b1 b2 b3 b4 b5 : Byte) (rest : List Byte) :
    let p := b0 :: b1 :: b2 :: b3 :: b4 :: b5 :: rest
    completionByte p 1 = b1 ∧ completionByte p 4 = b4 ∧ completionByte p 5 = b5 ∧
      (b2.toNat * 256 + b3.toNat ≤ 1023 → completionPosition p = b2.toNat * 256 + b3.toNat) := by
  have byte (i : Nat) (b : Byte) (h : (b0 :: b1 :: b2 :: b3 :: b4 :: b5 :: rest)[i]? = some b) :
      completionByte (b0 :: b1 :: b2 :: b3 :: b4 :: b5 :: rest) i = b := by
    obtain ⟨hi, -⟩ := List.getElem?_eq_some_iff.mp h
    rw [completionByte, if_pos hi, byteAt, List.getD_eq_getElem?_getD, h]
    rfl
  refine ⟨byte 1 b1 rfl, byte 4 b4 rfl, byte 5 b5 rfl, fun h => ?_⟩
  rw [completionPosition, byte 2 b2 rfl, byte 3 b3 rfl]
  exact if_pos h

theorem takeCompletion_eq : s.takeCompletion f =
    if Config.completionFaulted (completionByte f.payload 1) = true
    then exec (.completionFault f.tag.toNat (completionPosition f.payload)
      (Config.faultCause (completionByte f.payload 5))) s
    else exec (.completionDone f.tag.toNat (completionPosition f.payload)
      (Config.handLoaded (completionByte f.payload 4))) s := rfl

/-! ### The console lines (R124, R129) -/

theorem exec_consoleFrame (k : Console) : exec (.consoleFrameDiscarded k f) s =
    if f.crcGood = false then .next (s.logError .badCheck .link { detail := some (.console k) })
    else if f.lineFormGood consoleKinds = false then
      .next (s.logError .badFrame .link { detail := some (.consoleKind k f.kindName) })
    else s.takeConsole k f := by
  change execConsoleFrameDiscarded k f s = _
  rw [execConsoleFrameDiscarded]
  cases f.crcGood <;> cases f.lineFormGood consoleKinds <;> rfl

theorem takeConsole_reply {k : Console} (h : f.kindName = .reply) : s.takeConsole k f =
    takeWord k (Config.replyNumber f.payload).toNat (Config.replyWord f.payload) s := by
  simp only [State.takeConsole, h]

/-- A reply word is taken as the command of that word. -/
theorem takeWord_some (k : Console) (n : Nat) (w : Machine.Word) :
    takeWord k n (some w) s = exec (replyCommand k n w) s := by cases w <;> rfl

/-- A REPLY without a reply word is refused by the first check that fails (R124). -/
theorem takeWord_none (k : Console) (n : Nat) : takeWord k n none s =
    .next (afterSending [.console k (.replyResult (some n)
      (if s.prompt? n = none then .noSuchPrompt
        else if n ∈ (s.console k).area then .notAllowed else .notShownHere))] s) := by
  have judged : s.judgeWord k n (fun _ => false) =
      if s.prompt? n = none then .noSuchPrompt
      else if n ∈ (s.console k).area then .notAllowed else .notShownHere := by
    unfold State.judgeWord
    cases s.prompt? n with
    | none => rfl
    | some p => by_cases h : n ∈ (s.console k).area <;> simp [h]
  rw [← judged]
  rfl

/-- Settles O45, line by line. -/
theorem framesForwardedOrDiscarded : Obligations.FramesForwardedOrDiscarded := by
  intro s f discarded
  refine ⟨fun d => ⟨fun h => ?_, fun h hd => ?_, fun h hd => ⟨fun hc => ?_, fun l hc hl => ?_⟩⟩,
    ⟨fun h => ?_, fun h hn => ?_, fun h hg => ?_⟩,
    fun k => ⟨fun h => ?_, fun h hn => ?_, fun h hg => ?_⟩⟩
  · exact discards ((exec_driveStatus d).trans (if_pos h))
  · rw [exec_driveStatus, if_neg (by simp [h]), if_pos hd]
  · rw [exec_driveStatus, if_neg (by simp [h]), if_neg hd, State.forward, upwardLink_unconfigured hc]
    rfl
  · rw [exec_driveStatus, if_neg (by simp [h]), if_neg hd, State.forward, upwardLink_owning hc hl]
    rfl
  · exact discards (exec_robotLinkFrame.trans (if_pos h))
  · exact discards (exec_robotLinkFrame.trans
      ((if_neg (by simp [h])).trans (if_pos (lineFormGood_false robotKinds_iff hn))))
  · refine ⟨completionByte f.payload 1, completionByte f.payload 4, completionByte f.payload 5,
      completionPosition f.payload, completionPosition_le _, fun b0 b1 b2 b3 b4 b5 rest hp => ?_, ?_⟩
    · rw [hp]
      exact completion_payload b0 b1 b2 b3 b4 b5 rest
    · rw [exec_robotLinkFrame, if_neg (by simp [h]),
        if_neg (by simp [(lineFormGood_iff robotKinds_iff).mpr hg]), takeCompletion_eq]
  · exact discards ((exec_consoleFrame k).trans (if_pos h))
  · exact discards ((exec_consoleFrame k).trans
      ((if_neg (by simp [h])).trans (if_pos (lineFormGood_false consoleKinds_iff hn))))
  · have taken : exec (.consoleFrameDiscarded k f) s = s.takeConsole k f := by
      rw [exec_consoleFrame, if_neg (by simp [h]), if_neg (by simp [(lineFormGood_iff consoleKinds_iff).mpr hg])]
    refine ⟨fun hk => ?_, fun hk => ?_, fun hk => ?_⟩
    · rw [taken, State.takeConsole, hk]
      rfl
    · rw [taken, State.takeConsole, hk]
      rfl
    · rw [taken, takeConsole_reply hk]
      cases Config.replyWord f.payload with
      | none => exact takeWord_none k _
      | some w => exact takeWord_some k _ w

end Sys2Proof.DriveString
end

section
/-!
O46: an arriving link frame (R19, R30, R181 to R183).
-/

namespace Sys2Proof.DriveString

open Machine

variable {s t : State} {l : Link} {f : WireFrame}

/-! ### The form of a link frame (R181, R182) -/

theorem linkFormGood_iff : f.linkFormGood = true ↔ goodForm f := by
  have dest : f.destination = 16#8 ↔ f.destination.toNat = 16 := by rw [← BitVec.toNat_inj]; rfl
  have one : f.onePart = true ↔ f.train = 17#8 := by
    rw [← train_onePart_iff, WireFrame.onePart, Bool.and_eq_true, decide_eq_true_eq, decide_eq_true_eq]
    rfl
  have kinds : (if f.destination = 16#8 then f.kindName.isLibrary else f.onePart) = true ↔
      if f.destination.toNat = 16 then f.kindName.isLibrary = true else f.train = 17#8 := by
    by_cases h : f.destination = 16#8
    · rw [if_pos h, if_pos (dest.mp h)]
    · rw [if_neg h, if_neg (fun k => h (dest.mpr k)), one]
  simp only [WireFrame.linkFormGood, WireFrame.lengthGood, WireFrame.trainGood, Bool.and_eq_true,
    decide_eq_true_eq, kinds, goodForm, and_assoc]
  rfl

/-- The handling of a frame that passes every check (R181). -/
theorem arrival_good (hc : f.crcGood = true) (hg : goodForm f) : exec (.linkFrameArrival l f) s =
    match inRange 16 f.destination.toNat with
    | some d => .next (s.driveCommand l d f)
    | none => .next (s.assemble l f) := by
  change execLinkFrameArrival l f s = _
  rw [execLinkFrameArrival, hc, linkFormGood_iff.mpr hg]
  rfl

theorem arrival_drive {d : DriveId} (hc : f.crcGood = true) (hg : goodForm f)
    (hd : f.destination.toNat = d.val) : exec (.linkFrameArrival l f) s = .next (s.driveCommand l d f) := by
  rw [arrival_good hc hg, hd, inRange_val]

theorem arrival_library (hc : f.crcGood = true) (hg : goodForm f) (hd : f.destination.toNat = 16) :
    exec (.linkFrameArrival l f) s = .next (s.assemble l f) := by
  rw [arrival_good hc hg, hd]
  rfl

/-! ### Refusals -/

/-- A frame answered and its error logged sends the answer and then at most a NOTICE. -/
theorem refused_sent (tag : Nat) (k : FrameKind) (r : Result) (e : ErrorKind) (g : ErrorFields) :
    sentThenNotices [response l tag k r] s ((s.respond l tag k r).logError e .link g) := by
  obtain ⟨ns, hns, notices⟩ := logError_sentThenNotices (s := s.respond l tag k r) e .link g
  exact ⟨ns, by rw [hns, List.append_nil]; rfl, notices⟩

theorem refused_unchanged (tag : Nat) (k : FrameKind) (r : Result) (e : ErrorKind) (g : ErrorFields) :
    unchangedBut [.errors, .notices] s ((s.respond l tag k r).logError e .link g) :=
  unchangedBut_trans (t := s.respond l tag k r) ⟨fun b _ => by cases b <;> rfl, rfl, rfl⟩
    (unchangedBut_logError _ _ _)

/-- What the refusal of a frame that is answered and logged does. -/
theorem refuses {a : Answer} {tag : Nat} {k : FrameKind} {r : Result} {e : ErrorKind} {g : ErrorFields}
    (h : a = .next ((s.respond l tag k r).logError e .link g)) : ∃ t, a = .next t ∧
      sentThenNotices [response l tag k r] s t ∧ logged e .link s t ∧ unchangedBut [.errors, .notices] s t :=
  ⟨_, h, refused_sent tag k r e g, logged_logError (s := s.respond l tag k r) e .link g,
    refused_unchanged tag k r e g⟩

/-! ### The intake of a link -/

theorem updateIntake_get (g : LinkState → LinkState) :
    (s.updateIntake l g).intake.get l = g (s.intake.get l) ∧
      (∀ k, k ≠ l → (s.updateIntake l g).intake.get k = s.intake.get k) :=
  ⟨Bank.get_set_self _ _ _, fun _ hk => Bank.get_set_ne _ _ _ _ hk.symm⟩

theorem unchangedBut_intake {b : Bank LinkState 4} : unchangedBut [.intake] s { s with intake := b } := by
  refine ⟨fun k hk => ?_, rfl, rfl⟩
  cases k <;> first
    | exact absurd (by decide) hk
    | rfl

/-- A train dropped, and then a refusal answered and logged (R182). -/
theorem refuses_whole {a : Answer} {tag : Nat} {k : FrameKind} {r : Result} {e : ErrorKind} {g : ErrorFields}
    (h : a = .next (((s.updateIntake l fun i => { i with train := none }).respond l tag k r).logError e .link g)) :
    ∃ t, a = .next t ∧ sentThenNotices [response l tag k r] s t ∧ logged e .link s t ∧
      t.intake.get l = { s.intake.get l with train := none } ∧
      (∀ k, k ≠ l → t.intake.get k = s.intake.get k) ∧ unchangedBut [.intake, .errors, .notices] s t := by
  let v := s.updateIntake l fun i => { i with train := none }
  obtain ⟨t, ht, sent, logs, rest⟩ := refuses (s := v) h
  have intake : t.intake = v.intake := rest.1 .intake (by decide)
  obtain ⟨here, others⟩ := updateIntake_get (s := s) (l := l) fun i => { i with train := none }
  refine ⟨t, ht, sent, logs, by rw [intake]; exact here, fun k hk => by rw [intake]; exact others k hk, ?_⟩
  exact unchangedBut_trans (unchangedBut_mono unchangedBut_intake (by decide)) (unchangedBut_mono rest (by decide))

/-- What a change of a link's intake alone does. -/
theorem becomes_of_update {a : Answer} {g : LinkState → LinkState} {i : LinkState}
    (h : a = .next (s.updateIntake l g)) (hi : g (s.intake.get l) = i) : ∃ t, a = .next t ∧
      t.intake.get l = i ∧ (∀ k, k ≠ l → t.intake.get k = s.intake.get k) ∧ unchangedBut [.intake] s t ∧
      t.sent = s.sent := by
  obtain ⟨here, others⟩ := updateIntake_get (s := s) (l := l) g
  exact ⟨_, h, here.trans hi, others, unchangedBut_intake, rfl⟩

theorem updateIntake_updateIntake (g h : LinkState → LinkState) :
    (s.updateIntake l g).updateIntake l h = s.updateIntake l fun i => h (g i) := by
  have here := (updateIntake_get (s := s) (l := l) g).1
  simp only [State.updateIntake, Bank.update] at here ⊢
  rw [here]
  simp [Bank.set]

/-! ### A whole library frame (R182, R183) -/

section
variable {k : FrameKind} {tag : Nat} {p : List Byte}

theorem enqueue_badLength (h : payloadLengthGood k p.length = false) : s.enqueue l k tag p =
    (s.respond l tag k .badFrame).logError .badFrame .link { detail := some (.linkKind l k) } := by
  simp only [State.enqueue, h, Bool.not_false, if_true]
  rfl

theorem enqueue_room (h : payloadLengthGood k p.length = true) (hq : (s.intake.get l).queue.length < 8) :
    s.enqueue l k tag p = s.updateIntake l fun i =>
      { i with queue := i.queue ++ [{ kind := k, tag := tag, payload := p }] } := by
  simp only [State.enqueue, h, Bool.not_true, Bool.false_eq_true, if_false, hq, if_true]

theorem enqueue_full (h : payloadLengthGood k p.length = true) (hq : 8 ≤ (s.intake.get l).queue.length) :
    s.enqueue l k tag p = (s.respond l tag k .busy).logError .intakeFull .link
      { detail := some (.linkKindTag l k tag) } := by
  simp only [State.enqueue, h, Bool.not_true, Bool.false_eq_true, if_false, Nat.not_lt.mpr hq]

end

/-! ### Trains (R182) -/

theorem assemble_first (h : (s.intake.get l).train = none) : s.assemble l f = s.firstPart l f := by
  rw [State.assemble, h]

theorem firstPart_stray (h : f.train.toNat % 16 ≠ 1) : s.firstPart l f =
    (s.respond l f.tag.toNat f.kindName .badFrame).logError .badFrame .link
      { detail := some (.linkKind l f.kindName) } := by
  have part : f.trainPart ≠ 1 := h
  simp only [State.firstPart, part, ne_eq, not_false_iff, if_true]
  rfl

theorem firstPart_single (h : f.train = 17#8) :
    s.firstPart l f = s.enqueue l f.kindName f.tag.toNat f.payload := by
  obtain ⟨total, part⟩ := (train_onePart_iff f.train).mpr h
  have total : f.trainTotal = 1 := total
  have part : f.trainPart = 1 := part
  simp only [State.firstPart, part, total, ne_eq, not_true, if_false, if_true]

theorem firstPart_opens (h : f.train.toNat % 16 = 1) (ht : 1 < f.train.toNat / 16) :
    s.firstPart l f = s.updateIntake l fun i => { i with
      train := some { kind := f.kindName, tag := f.tag.toNat, total := f.train.toNat / 16, taken := 1, payload := f.payload } } := by
  have total : f.trainTotal ≠ 1 := fun k => by have : f.train.toNat / 16 = 1 := k; omega
  have part : f.trainPart = 1 := h
  simp only [State.firstPart, part, total, ne_eq, not_true, if_false]
  rfl

/-- The frame is the part that the train expects next. -/
def Next (p : PartialTrain) (f : WireFrame) : Prop :=
  f.kindName = p.kind ∧ f.tag.toNat = p.tag ∧ f.train.toNat / 16 = p.total ∧ f.train.toNat % 16 = p.taken + 1

theorem next_iff (p : PartialTrain) : p.next f = true ↔ Next p f := by
  simp only [PartialTrain.next, Bool.and_eq_true, decide_eq_true_eq, and_assoc]
  rfl

section
variable {p : PartialTrain}

theorem assemble_breaks (h : (s.intake.get l).train = some p) (hn : ¬Next p f) : s.assemble l f =
    ((s.updateIntake l fun i => { i with train := none }).refuseFrame l p.tag p.kind).firstPart l f := by
  rw [← next_iff] at hn
  rw [State.assemble, h]
  exact if_neg hn

theorem assemble_ends (h : (s.intake.get l).train = some p) (hn : Next p f) (ht : p.taken + 1 = p.total) :
    s.assemble l f = (s.updateIntake l fun i => { i with train := none }).enqueue l f.kindName f.tag.toNat
      (p.payload ++ f.payload) := by
  obtain ⟨kind, tag, -, part⟩ := id hn
  have last : f.trainPart = p.total := part.trans ht
  rw [State.assemble, h, kind, tag]
  exact (if_pos ((next_iff p).mpr hn)).trans (if_pos last)

theorem assemble_grows (h : (s.intake.get l).train = some p) (hn : Next p f) (ht : p.taken + 1 < p.total) :
    s.assemble l f = s.updateIntake l fun i => { i with
      train := some { p with taken := p.taken + 1, payload := p.payload ++ f.payload } } := by
  obtain ⟨-, -, -, part⟩ := id hn
  have part : f.trainPart = p.taken + 1 := part
  rw [State.assemble, h]
  refine (if_pos ((next_iff p).mpr hn)).trans ((if_neg (by omega)).trans ?_)
  rw [part]

end

/-! ### Drive commands (R19, R30) -/

theorem driveCommand_pending {d : DriveId}
    (h : s.reads d = true ∧ ((s.drive d).state = .reserved ∨ (s.drive d).state = .loading)) :
    s.driveCommand l d f = s.emit (.link l (.mountPending f.tag.toNat d)) := by
  have pending : s.mountPending d = true := by simpa [State.mountPending] using h
  rw [State.driveCommand, pending, if_pos rfl]

theorem driveCommand_sent {d : DriveId}
    (h : ¬(s.reads d = true ∧ ((s.drive d).state = .reserved ∨ (s.drive d).state = .loading))) :
    s.driveCommand l d f = if s.reads d = true ∧ f.kindName = .rewindUnload ∧ (s.drive d).state = .occupied then
        (s.emit (.string (.command f))).updateDrive d fun e => { e with state := .unloading }
      else s.emit (.string (.command f)) := by
  have pending : s.mountPending d = false := by
    rw [← Bool.not_eq_true]
    exact fun k => h (by simpa [State.mountPending] using k)
  rw [State.driveCommand, pending, if_neg Bool.false_ne_true]
  simp only [Bool.and_eq_true, decide_eq_true_eq, and_assoc]
  rfl

/-- A command that passes goes down the string, and a REWIND_UNLOAD among them makes an OCCUPIED drive
UNLOADING. -/
theorem driveCommand_passes {d : DriveId}
    (h : ¬(s.reads d = true ∧ ((s.drive d).state = .reserved ∨ (s.drive d).state = .loading))) :
    let t := s.driveCommand l d f
    t.sent = s.sent ++ [.string (.command f)] ∧
      t.drive d = { s.drive d with
        state := if s.reads d = true ∧ f.kindName = .rewindUnload ∧ (s.drive d).state = .occupied
          then .unloading else (s.drive d).state } ∧
      (∀ d', d' ≠ d → t.drive d' = s.drive d') ∧ unchangedBut [.drives] s t := by
  rw [driveCommand_sent h]
  split
  · refine ⟨rfl, updateDrive_drive _ _ _, fun d' hd' => updateDrive_drive_ne _ _ _ _ hd'.symm, fun b hb => ?_, rfl, rfl⟩
    cases b <;> first
      | exact absurd (by decide) hb
      | rfl
  · exact ⟨rfl, rfl, fun _ _ => rfl, fun b _ => by cases b <;> rfl, rfl, rfl⟩

/-! ### The command -/

theorem arrival_badCheck (h : f.crcGood = false) :
    exec (.linkFrameArrival l f) s = .next (s.logError .badCheck .link { detail := some (.link l) }) := by
  change execLinkFrameArrival l f s = _
  rw [execLinkFrameArrival, h]
  rfl

theorem arrival_badForm (h : f.crcGood = true) (hg : ¬goodForm f) : exec (.linkFrameArrival l f) s =
    .next ((s.respond l f.tag.toNat f.kindName .badFrame).logError .badFrame .link
      { detail := some (.linkKind l f.kindName) }) := by
  have form : f.linkFormGood = false := by
    rw [← Bool.not_eq_true, linkFormGood_iff]
    exact hg
  change execLinkFrameArrival l f s = _
  rw [execLinkFrameArrival, h, form]
  rfl

section
variable {p : PartialTrain}

/-- A frame that breaks a train is judged as if none were present, after the train's refusal (R182). -/
theorem arrival_breaks (hc : f.crcGood = true) (hg : goodForm f) (hd : f.destination.toNat = 16)
    (hp : (s.intake.get l).train = some p) (hn : ¬Next p f) :
    ∃ u, sentThenNotices [response l p.tag p.kind .badFrame] s u ∧ logged .badFrame .link s u ∧
      u.intake.get l = { s.intake.get l with train := none } ∧
      (∀ k, k ≠ l → u.intake.get k = s.intake.get k) ∧
      unchangedBut [.intake, .errors, .notices] s u ∧
      exec (.linkFrameArrival l f) s = exec (.linkFrameArrival l f) u := by
  obtain ⟨u, hu, sent, logs, here, others, rest⟩ := refuses_whole (s := s) (l := l) (a := .next
    ((s.updateIntake l fun i => { i with train := none }).refuseFrame l p.tag p.kind)) rfl
  obtain rfl := Host.Outcome.next.inj hu
  refine ⟨_, sent, logs, here, others, rest, ?_⟩
  rw [arrival_library hc hg hd, arrival_library hc hg hd, assemble_breaks hp hn, assemble_first]
  rw [here]

/-- The queue of a link whose train has been dropped. -/
theorem dropTrain_queue :
    ((s.updateIntake l fun i => { i with train := none }).intake.get l).queue = (s.intake.get l).queue := by
  rw [(updateIntake_get _).1]

end

/-- What a library frame does, by what its assembly answers. -/
theorem arrival_assembles {u : State} (hc : f.crcGood = true) (hg : goodForm f) (hd : f.destination.toNat = 16)
    (h : s.assemble l f = u) : exec (.linkFrameArrival l f) s = .next u :=
  h ▸ arrival_library hc hg hd

section
variable {p : PartialTrain}

/-- The last part of a train whose whole finds room in the queue (R182, R183). -/
theorem assemble_completes (hp : (s.intake.get l).train = some p) (hn : Next p f) (ht : p.taken + 1 = p.total)
    (hq : (s.intake.get l).queue.length < 8)
    (hl : payloadLengthGood f.kindName (p.payload ++ f.payload).length = true) :
    s.assemble l f = s.updateIntake l fun i => { i with
      train := none
      queue := i.queue ++ [{ kind := f.kindName, tag := f.tag.toNat, payload := p.payload ++ f.payload }] } := by
  rw [assemble_ends hp hn ht, enqueue_room hl (by rw [dropTrain_queue]; exact hq), updateIntake_updateIntake]

end

/-- Settles O46, check by check. -/
theorem linkFrameTaken : Obligations.LinkFrameTaken := by
  intro s l f tag kind arrives
  refine ⟨fun hc => discards (arrival_badCheck hc), fun hc hg => refuses (arrival_badForm hc hg),
    fun hc hg => ⟨fun d hd => ⟨fun hw => ?pending, fun hw => ?passes⟩, fun hd => ?library⟩⟩
  case pending => exact (arrival_drive hc hg hd).trans (congrArg Host.Outcome.next (driveCommand_pending hw))
  case passes => exact ⟨_, arrival_drive hc hg hd, driveCommand_passes hw⟩
  case library =>
    have arrives_of {u : State} : s.assemble l f = u → arrives = .next u := arrival_assembles hc hg hd
    refine ⟨fun hi ht => ?single, fun hi hp ht => ?opened, fun hi hp => ?stray,
      fun p hp => ⟨fun hn => arrival_breaks hc hg hd hp hn, fun hn ht hl => ?badWhole, fun hn ht hl hq => ?busyWhole,
        fun hn ht => ?grown, fun hn ht hq hl => ?completed⟩⟩
    case single =>
      have whole := (assemble_first hi).trans (firstPart_single ht)
      exact ⟨fun hl => ⟨fun hq => becomes_of_update (arrives_of (whole.trans (enqueue_room hl hq))) rfl,
          fun hq => refuses (arrives_of (whole.trans (enqueue_full hl hq)))⟩,
        fun hl => refuses (arrives_of (whole.trans (enqueue_badLength hl)))⟩
    case opened =>
      exact becomes_of_update (arrives_of ((assemble_first hi).trans (firstPart_opens hp ht))) rfl
    case stray => exact refuses (arrives_of ((assemble_first hi).trans (firstPart_stray hp)))
    case badWhole => exact refuses_whole (arrives_of ((assemble_ends hp hn ht).trans (enqueue_badLength hl)))
    case busyWhole =>
      rw [← dropTrain_queue] at hq
      exact refuses_whole (arrives_of ((assemble_ends hp hn ht).trans (enqueue_full hl hq)))
    case grown => exact becomes_of_update (arrives_of (assemble_grows hp hn ht)) rfl
    case completed => exact becomes_of_update (arrives_of (assemble_completes hp hn ht hq hl)) rfl

end Sys2Proof.DriveString
end

section
/-!
O9 and O18: frames that are refused and change nothing (R45, R63, R184).
-/

namespace Sys2Proof.WorkLists

open Machine

variable {s : State}

/-- Every management frame asks first for the permission of its link (R184). -/
theorem exec_management {c : Instr} {l : Link} {tag : Nat} {k : FrameKind} (h : c.management = some (l, tag, k))
    (hp : (s.intake.get l).permitted = false) : exec c s = .next (s.respond l tag k .notPermitted) := by
  cases c <;> simp only [Instr.management, Option.some.injEq, Prod.mk.injEq, reduceCtorEq] at h <;>
    obtain ⟨rfl, rfl, rfl⟩ := h <;>
    simp only [exec, managed_refused _ _ _ _ _ hp,
      execAddVolumes, execDeleteVolume, execSetHome, execReadVolume, execLoadGeometry,
      execLoadDrives, execLoadAccounts, execLoadTariff, execLoadRouting, execSetPolicy,
      execSetClock, execAdjustClock, execRoundClock, execReadClock, execSetClose, execClosePeriod,
      execReadRecords, execReadClosed, execReadAccount, execReadErrors, execClearErrors,
      execReadNotices, execClearNotices, execSetNotices, execReadStatus, execClearResetCause,
      execStart, execQuiesce, execResetWarm, execEject, execEnter]

/-- Settles O9. -/
theorem notPermitted : Obligations.NotPermitted := by
  intro s l hp
  have refused : (s.intake.get l).permitted = false := by simpa using hp
  refine ⟨fun c tag k h => ?_, fun tag n => ?_⟩
  · exact exec_management h refused
  · change execCancel l tag (.byNumber n) s = _
    rw [execCancel, if_neg hp]
    rfl

/-! ### The checks of a MOUNT (R45) -/

section
variable {l : Link} {tag n : Nat} {r : MountRequest} {d : DriveId}

theorem exec_mount_refused {code : Result} (h : s.judgeMount l tag r = .error code) :
    exec (.mount l tag r) s = .next (afterSending [response l tag .mount code] s) := by
  change execMount l tag r s = _
  rw [execMount, h]
  rfl

theorem admitsMount_iff (m : Mode) : m.admitsMount = true ↔ m.governing = some .run := by
  simp [Mode.admitsMount]

/-- A request that passes the checks of mode and form is judged by its drive (R45). -/
theorem judgeMount_form (hm : s.mode.governing = some .run) (hw : s.mountWellFormed l tag r = true)
    (hd : r.drive = d.val) : s.mode.admitsMount = true ∧ s.mountWellFormed l tag r = true ∧
      inRange 16 r.drive = some d := ⟨(admitsMount_iff _).mpr hm, hw, by simp [inRange, hd]⟩

end

/-- Settles O18, check by check. -/
theorem mountRefused : Obligations.MountRefused := by
  intro s l tag r refused
  refine ⟨fun hm => exec_mount_refused ?mode, fun hm hw => exec_mount_refused ?form, fun d hm hw hd =>
    ⟨fun hc => exec_mount_refused ?drive, fun hc hu => exec_mount_refused ?unavailable,
      fun hc hg hs hb => exec_mount_refused ?busy, fun hc hg hs hj =>
        ⟨fun hn => exec_mount_refused ?full, fun n v hn hv hu => exec_mount_refused ?inUse⟩⟩⟩
  case mode =>
    have : s.mode.admitsMount = false := by simpa [Mode.admitsMount] using hm
    simp [State.judgeMount, this]
  case form => simp [State.judgeMount, (admitsMount_iff _).mpr hm, hw]
  case drive => simp [State.judgeMount, judgeMount_form hm hw hd, hc]
  case unavailable =>
    simp only [List.mem_cons, List.not_mem_nil, or_false] at hu
    rcases hu with h | h | h | h <;> simp [State.judgeMount, judgeMount_form hm hw hd, hc, h]
  case busy =>
    simp only [List.mem_cons, List.not_mem_nil, or_false, not_or] at hs
    rcases hb with h | h
    · simp [State.judgeMount, judgeMount_form hm hw hd, hc, hg, hs, h]
    · simp [State.judgeMount, judgeMount_form hm hw hd, hc, hg, hs, Option.isSome_iff_ne_none.mpr h]
  case full => simp [State.judgeMount, judgeMount_form hm hw hd, hc, hg, hs, hj, hn]
  case inUse => simp [State.judgeMount, judgeMount_form hm hw hd, hc, hg, hs, hj, hn, hv, hu]

end Sys2Proof.WorkLists
end

section
/-!
SUPPORT. The prompts as they stand on the desk: what settling, posting, closing and withdrawing leave of an
open prompt, and what becomes of one that is owed (R109 to R127).
-/

namespace Sys2Proof.WorkLists

open Machine DriveString

/-- A prompt without its reminder and limit timers. -/
def untimed (p : Prompt) : Prompt := { p with reminderTimer := .stopped, limitTimer := .stopped }

/-- The open prompt with a number, its reminder and limit timers apart. -/
def record? (s : State) (m : Nat) : Option Prompt := (s.prompt? m).map untimed

/-- An open prompt is the one a posting made, by its kind, owner and parameters. -/
def posts (q : OwedPrompt) (p : Prompt) : Prop := p.kind = q.kind ∧ p.owner = q.owner ∧ p.params = q.params

/-- From `s` to `t` the open prompts stand, and the owed ones are still owed or have been posted, but for those
whose owner `W` holds of. -/
structure Heard (W : Owner → Prop) (s t : State) : Prop where
  stands : ∀ m p, record? s m = some p → ¬W p.owner → record? t m = some p
  owed : ∀ q ∈ s.desk.owed, ¬W q.owner → q ∈ t.desk.owed ∨ ∃ m p, record? t m = some p ∧ posts q p

namespace Heard

variable {W W' : Owner → Prop} {s t u : State}

theorem refl (s : State) : Heard W s s := ⟨fun _ _ h _ => h, fun _ h _ => .inl h⟩

theorem trans (h : Heard W s t) (k : Heard W t u) : Heard W s u where
  stands m p hp hw := k.stands m p (h.stands m p hp hw) hw
  owed q hq hw := by
    rcases h.owed q hq hw with hq | ⟨m, p, hp, posted⟩
    · exact k.owed q hq hw
    · exact .inr ⟨m, p, k.stands m p hp (posted.2.1 ▸ hw), posted⟩

theorem mono (h : Heard W s t) (hW : ∀ o, W o → W' o) : Heard W' s t where
  stands m p hp hw := h.stands m p hp fun k => hw (hW _ k)
  owed q hq hw := h.owed q hq fun k => hw (hW _ k)

end Heard

section
variable {W : Owner → Prop} (s : State)

/-! ### Settling the areas (R116) -/

theorem record?_eq (m : Nat) : record? s m = (s.desk.prompts.map untimed).find? fun p => p.number = m := by
  simp only [record?, State.prompt?, List.find?_map]
  rfl

/-- A step that leaves the open prompts, their timers apart, and the owed ones. -/
theorem heard_of_records {t : State} (h : t.desk.prompts.map untimed = s.desk.prompts.map untimed)
    (ho : t.desk.owed = s.desk.owed) : Heard W s t :=
  ⟨fun m p hp _ => by rwa [record?_eq, h, ← record?_eq], fun q hq _ => .inl (ho ▸ hq)⟩

theorem heard_of_desk {t : State} (h : t.desk = s.desk) : Heard W s t :=
  heard_of_records s (by rw [h]) (by rw [h])

theorem retime_records (n : Nat) (b : PromptPosition) :
    (s.retime n b).desk.prompts.map untimed = s.desk.prompts.map untimed := by
  simp only [State.retime, State.updatePrompt, List.map_map]
  refine List.map_congr_left fun p _ => ?_
  simp only [Function.comp_apply]
  split <;> rfl

theorem sendShow_desk (c : Console) (n : Nat) : (s.sendShow c n).desk = s.desk := by
  unfold State.sendShow
  split <;> rfl

theorem enterArea_records (c : Console) (n : Nat) :
    (s.enterArea c n).desk.prompts.map untimed = s.desk.prompts.map untimed := by
  unfold State.enterArea
  rw [sendShow_desk]
  exact retime_records _ n _

theorem displace_records (c : Console) (n : Nat) :
    (s.displace c n).desk.prompts.map untimed = s.desk.prompts.map untimed := retime_records _ n _

theorem settleStep_records (c : Console) (t : State) (h : s.settleStep c = some t) :
    t.desk.prompts.map untimed = s.desk.prompts.map untimed := by
  unfold State.settleStep at h
  split at h
  · simp at h
  · split at h
    · exact Option.some.inj h ▸ enterArea_records s c _
    · split at h
      · split at h
        · exact Option.some.inj h ▸ (enterArea_records _ c _).trans (displace_records s c _)
        · simp at h
      · simp at h

theorem settleWith_records (c : Console) (fuel : Nat) :
    (s.settleWith c fuel).desk.prompts.map untimed = s.desk.prompts.map untimed := by
  induction fuel generalizing s with
  | zero => rfl
  | succ fuel ih =>
    unfold State.settleWith
    split
    · next t h => exact (ih t).trans (settleStep_records s c t h)
    · rfl

theorem settleBoth_records : s.settleBoth.desk.prompts.map untimed = s.desk.prompts.map untimed :=
  (settleWith_records _ 1 32).trans (settleWith_records s 0 32)

theorem settleBoth_heard : Heard W s s.settleBoth :=
  heard_of_records s (settleBoth_records s) (settleBoth_settled s).owed

/-! ### Posting (R111 to R113) -/

theorem enlisted_heard (q : OwedPrompt) (n : Nat) : Heard W s (enlisted s q n) where
  stands m p hp _ := by
    obtain ⟨i, hi, rfl⟩ := Option.map_eq_some_iff.mp hp
    have found : s.desk.prompts.find? (fun p => p.number = m) = some i := hi
    simp [record?, State.prompt?, enlisted, List.find?_append, found]
  owed q hq _ := .inl hq

theorem postNow_heard (q : OwedPrompt) : Heard W s (s.postNow q) := by
  rw [postNow_eq]
  exact (enlisted_heard s q _).trans ((heard_of_desk _ (recordPrompt_desk _ _ _ _)).trans (settleBoth_heard _))

/-- With a free entry in the table a prompt that is posted is open. -/
theorem postNow_posts (q : OwedPrompt) (h : s.desk.prompts.length < 32) :
    ∃ m p, record? (s.postNow q) m = some p ∧ posts q p := by
  let m := s.freeNumberFrom 33 s.desk.nextNumber
  have free : s.desk.prompts.find? (fun p => p.number = m) = none := freeNumber_free s h
  have found : record? (enlisted s q m) m = some (untimed (newPrompt s q m)) := by
    simp [record?, State.prompt?, enlisted, newPrompt, List.find?_append, free]
  refine ⟨m, untimed (newPrompt s q m), ?_, rfl, rfl, rfl⟩
  rw [postNow_eq]
  refine (settleBoth_heard (W := fun _ => False) _).stands m (untimed (newPrompt s q m)) ?_ id
  exact (heard_of_desk (W := fun _ => False) _ (recordPrompt_desk _ _ _ _)).stands m _ found id

theorem postNow_owed (q : OwedPrompt) : (s.postNow q).desk.owed = s.desk.owed := by
  rw [postNow_eq, (settleBoth_settled _).owed, recordPrompt_desk]
  rfl

theorem postOwedWith_heard (fuel : Nat) : Heard W s (s.postOwedWith fuel) := by
  induction fuel generalizing s with
  | zero => exact .refl s
  | succ fuel ih =>
    unfold State.postOwedWith
    split
    · next room =>
      split
      · next q _ =>
        refine Heard.trans ?_ (ih _)
        let u : State := { s with desk := { s.desk with owed := s.desk.owed.filter fun p => p ≠ q } }
        have posted := postNow_posts u q room
        refine ⟨fun m p hp hw => (postNow_heard (W := W) u q).stands m p hp hw, fun i hi _ => ?_⟩
        by_cases e : i = q
        · obtain rfl := e
          exact .inr posted
        · exact .inl (by rw [postNow_owed]; simpa [u] using ⟨hi, e⟩)
      · exact .refl s
    · exact .refl s

/-! ### Closing and withdrawing (R125, R127) -/

theorem sendRemove_desk (n : Nat) (w : RemoveReason) (c : Console) : (s.sendRemove n w c).desk = s.desk := by
  unfold State.sendRemove
  split <;> rfl

theorem sendRemoves_desk (n : Nat) (w : RemoveReason) :
    (allConsoles.foldl (State.sendRemove n w) s).desk = s.desk := by
  simp only [allConsoles, List.foldl_cons, List.foldl_nil, sendRemove_desk]

/-- A withdrawal leaves the prompts of other owners. -/
theorem withdraw_heard (o : Owner) (n : Nat) : Heard (fun x => x = o) s (s.withdraw o n) := by
  unfold State.withdraw
  split
  · next p hp =>
    split
    · next ho =>
      rw [closePrompt_eq]
      let u := allConsoles.foldl (State.sendRemove n .withdrawn) s
      have desk : u.desk = s.desk := sendRemoves_desk s n .withdrawn
      refine (heard_of_desk s desk).trans (Heard.trans (t := delisted u n) ⟨fun m i hi hw => ?_, fun q hq _ => .inl hq⟩
        ((postOwedWith_heard _ 32).trans (settleBoth_heard _)))
      have other : m ≠ n := by
        rintro rfl
        rw [record?, State.prompt?, desk, ← State.prompt?, hp] at hi
        obtain rfl := Option.some.inj hi
        exact hw ho
      have kept : (u.desk.prompts.filter fun p => p.number ≠ n).find? (fun p => p.number = m) =
          u.desk.prompts.find? fun p => p.number = m := by
        rw [List.find?_filter]
        congr 1
        funext p
        by_cases e : p.number = m
        · simp [e, other]
        · simp [e]
      rw [← hi]
      simp only [record?, State.prompt?, delisted, kept]
    · exact .refl s
  · exact .refl s

theorem dropOwed_heard (o : Owner) (k : PromptKind → Bool) : Heard (fun x => x = o) s (s.dropOwed o k) where
  stands _ _ h _ := h
  owed q hq hw := .inl (by simp [State.dropOwed, hq, hw])

/-- The owners that are jobs under a number. -/
def OwnedBy (n : Nat) (o : Owner) : Prop := ∃ r, o = .job r ∧ r.number = n

theorem withdrawJobPrompt_heard (n : Nat) (k : PromptKind → Bool) :
    Heard (OwnedBy n) s (s.withdrawJobPrompt n k) := by
  unfold State.withdrawJobPrompt
  split
  · next j _ =>
    have own : ∀ o, o = Owner.job (j.ref n) → OwnedBy n o := fun o h => ⟨_, h, rfl⟩
    dsimp only
    refine Heard.trans ?_ ((dropOwed_heard _ _ _).mono own)
    split
    · exact (heard_of_desk (t := s.updateJob n fun j => { j with prompt := none }) s rfl).trans
        ((withdraw_heard _ _ _).mono own)
    · exact .refl s
  · exact .refl s

theorem postForJob_heard (n : Nat) (k : PromptKind) (p : PromptParams) :
    Heard (OwnedBy n) s (s.postForJob n k p) := by
  unfold State.postForJob
  split
  · next j _ =>
    rw [post_eq]
    have ready : Heard (OwnedBy n) s (readied s (.job (j.ref n)) k) := by
      unfold readied
      dsimp only
      split
      · exact withdrawJobPrompt_heard s n _
      · exact .refl s
    refine ready.trans ?_
    split
    · exact postNow_heard _ _
    · exact ⟨fun _ _ h _ => h, fun q hq hw => .inl (by
        have : q.owner ≠ .job (j.ref n) := fun e => hw ⟨_, e, rfl⟩
        simp [owing, hq, this])⟩
  · exact .refl s

/-! ### A job that has no open prompt -/

/-- With no open prompt a job withdraws none, and drops those it is owed. -/
theorem withdrawJobPrompt_none {n : Nat} {j : Job} (k : PromptKind → Bool) (hj : s.job? n = some j)
    (hp : j.prompt = none) : s.withdrawJobPrompt n k = s.dropOwed (.job (j.ref n)) k := by
  simp [State.withdrawJobPrompt, hj, hp]

theorem readied_none {n : Nat} {j : Job} (k : PromptKind) (hj : s.job? n = some j) (hp : j.prompt = none) :
    readied s (.job (j.ref n)) k = s.dropOwed (.job (j.ref n)) fun m => m ≠ k := by
  have live : (s.liveJob (j.ref n)).isSome = true := by simp [State.liveJob, Job.ref, hj]
  exact (if_pos live).trans (withdrawJobPrompt_none s _ hj hp)

/-- A job's posting opens its prompt when the table has a free entry after its own is withdrawn (R112). -/
theorem postForJob_posts {n : Nat} {j : Job} (k : PromptKind) (p : PromptParams) (hj : s.job? n = some j)
    (h : (readied s (.job (j.ref n)) k).desk.prompts.length < 32) :
    ∃ m i, record? (s.postForJob n k p) m = some i ∧ posts ⟨.job (j.ref n), k, p, false⟩ i := by
  unfold State.postForJob
  rw [hj]
  dsimp only
  rw [post_eq, if_pos h]
  exact postNow_posts _ _ h

/-- Without an open prompt of its own a job finds the table as it stands. -/
theorem readied_room {n : Nat} {j : Job} (k : PromptKind) (hj : s.job? n = some j) (hp : j.prompt = none)
    (h : s.desk.prompts.length < 32) : (readied s (.job (j.ref n)) k).desk.prompts.length < 32 := by
  rw [readied_none s k hj hp]
  exact h

/-- A desk with room has room for a job's prompt. -/
theorem readied_open (o : Owner) (k : PromptKind) (h : deskOpen s) :
    (readied s o k).desk.prompts.length < 32 := by
  unfold readied
  split
  · split
    · exact (withdrawJobPrompt_open _ _ h).1
    · exact h.1
  · exact h.1

/-- What is posted is open or owed (R113). -/
theorem post_pends (o : Owner) (k : PromptKind) (p : PromptParams) (b : Bool) :
    ⟨o, k, p, b⟩ ∈ (s.post o k p b).desk.owed ∨
      ∃ m i, record? (s.post o k p b) m = some i ∧ posts ⟨o, k, p, b⟩ i := by
  rw [post_eq]
  split
  · next room => exact .inr (postNow_posts _ _ room)
  · exact .inl (by simp [owing])

theorem asks_of_record {m : Nat} {p : Prompt} (h : record? s m = some p) : asks s p.kind p.owner := by
  obtain ⟨i, hi, rfl⟩ := Option.map_eq_some_iff.mp h
  exact ⟨i, List.mem_of_find?_eq_some hi, rfl, rfl⟩

/-- An open prompt on the desk, with the parameters it was posted with. -/
theorem mem_of_record {m : Nat} {p : Prompt} {q : OwedPrompt} (h : record? s m = some p) (hq : posts q p) :
    ∃ i ∈ s.desk.prompts, i.kind = q.kind ∧ i.owner = q.owner ∧ i.params = q.params := by
  obtain ⟨i, hi, rfl⟩ := Option.map_eq_some_iff.mp h
  exact ⟨i, List.mem_of_find?_eq_some hi, hq⟩

end

end Sys2Proof.WorkLists
end

section
/-!
SUPPORT. What the aftermath of an event keeps of every job, arm, bay and prompt: the request a job was made
for, the reels in hand and the orders in flight, and the whole record of a job that nothing acts on (R60, R68,
R77, R78, R97, R170, R173, R175).
-/

namespace Sys2Proof.WorkLists

open Machine DriveString

/-! ### Job by job -/

/-- What an aftermath may do: grant runs, put a job held for it into a hatch bay, and offer bays that have
become free. -/
structure Scope where
  grants : Prop
  hatches : Prop
  offers : Prop

/-- A job on which an aftermath of this scope does not act. -/
structure Firm (c : Scope) (j : Job) : Prop where
  waiting : j.state = .waiting → ¬c.grants
  ring : j.state ≠ .held .ringFull
  hatch : j.state = .held .hatchFull → ¬c.hatches
  offered : c.offers → j.arm = none ∧ j.kind ≠ .enter

/-- What a job was asked to do and how it was counted: its record without what a run, a hold or a prompt
changes. -/
def request (j : Job) : Job :=
  { j with
    volume := none, serial := none, mountKind := .robot, state := .waiting, legs := [], leg := 0, arm := none
    retryUsed := false, ringBay := none, hatchBay := none, prompt := none, aging := .stopped }

/-- A job that has been granted a run (R60, step 5). -/
def grantedJob (j : Job) (x : ArmId) (r : RunOption) : Job :=
  { j with
    arm := some x, legs := r.legs, leg := 0, mountKind := j.grantedKind r
    ringBay := if r.ring.isSome then r.ring else j.ringBay
    hatchBay := if r.hatch.isSome then r.hatch else j.hatchBay
    state := .assigned, aging := .stopped }

/-- A property of a job on its way, its volume known, that prompts and grants keep. -/
structure Underway (P : Job → Prop) : Prop where
  going : ∀ j, P j → Going j
  prompt : ∀ j p, P j → P { j with prompt := p }
  grant : ∀ (s : State) j x r, P j → j.state = .waiting → r ∈ s.runOptions j → P (grantedJob j x r)

/-- What an aftermath of a scope keeps of a job. -/
structure JobKept (c : Scope) (j j' : Job) : Prop where
  request : request j' = request j
  volume : j.volume ≠ none → j'.volume = j.volume ∧ j'.serial = j.serial
  firm : Firm c j → unaskedJob j' = unaskedJob j
  same : ¬c.grants → ¬c.offers → Firm c j → j' = j
  held : ∀ r, j'.state = .held r → j.state = .held r ∨ r = .noScratch ∨ r = .noCleaner
  underway : ¬c.offers → ∀ P, Underway P → P j → P j'

theorem Firm.of_unasked {c : Scope} {j j' : Job} (h : Firm c j) (e : unaskedJob j' = unaskedJob j) : Firm c j' := by
  have state : j'.state = j.state := (congrArg Job.state e :)
  have arm : j'.arm = j.arm := (congrArg Job.arm e :)
  have kind : j'.kind = j.kind := (congrArg Job.kind e :)
  exact ⟨fun k => h.waiting (state ▸ k), fun k => h.ring (state ▸ k), fun k => h.hatch (state ▸ k),
    fun k => by rw [arm, kind]; exact h.offered k⟩

namespace JobKept

variable {c : Scope} {j j' j'' : Job}

theorem trans (h : JobKept c j j') (k : JobKept c j' j'') : JobKept c j j'' where
  request := k.request.trans h.request
  volume hv := by
    obtain ⟨v, r⟩ := h.volume hv
    obtain ⟨v', r'⟩ := k.volume (by rwa [v])
    exact ⟨v'.trans v, r'.trans r⟩
  firm hf := (k.firm (hf.of_unasked (h.firm hf))).trans (h.firm hf)
  same hg ho hf := (k.same hg ho (hf.of_unasked (h.firm hf))).trans (h.same hg ho hf)
  held r hr := (k.held r hr).elim (h.held r) .inr
  underway ho P hP hj := k.underway ho P hP (h.underway ho P hP hj)

/-- Only the number of the job's prompt may change. -/
theorem of_prompt (j : Job) (p : Option Nat) (h : c.grants ∨ c.offers ∨ p = j.prompt) :
    JobKept c j { j with prompt := p } where
  request := rfl
  volume _ := ⟨rfl, rfl⟩
  firm _ := rfl
  same hg ho _ := by
    obtain rfl := (h.resolve_left hg).resolve_left ho
    rfl
  held _ hr := .inl hr
  underway _ P hP hj := hP.prompt j p hj

theorem refl (j : Job) : JobKept c j j := of_prompt j j.prompt (.inr (.inr rfl))

/-- A held job on which the aftermath acts, and which is held no longer. -/
theorem of_acted (hf : ¬Firm c j) (hh : ¬c.offers → ∃ r, j.state = .held r)
    (hr : WorkLists.request j' = WorkLists.request j) (hv : j'.volume = j.volume ∧ j'.serial = j.serial)
    (hs : ∀ r, j'.state ≠ .held r) : JobKept c j j' where
  request := hr
  volume _ := hv
  firm k := absurd k hf
  same _ _ k := absurd k hf
  held r k := absurd k (hs r)
  underway ho P hP hj := by
    obtain ⟨r, e⟩ := hh ho
    rcases (hP.going j hj).1 with k | k <;> rw [e] at k <;> simp at k

end JobKept

/-! ### The whole state -/

/-- An arm keeps the reel in its hand and an order in flight. -/
def ArmKept (a a' : Arm) : Prop := a'.hand = a.hand ∧ ∀ f, a.inFlight = some f → a'.inFlight = some f

theorem ArmKept.refl (a : Arm) : ArmKept a a := ⟨rfl, fun _ h => h⟩

theorem ArmKept.trans {a a' a'' : Arm} (h : ArmKept a a') (k : ArmKept a' a'') : ArmKept a a'' :=
  ⟨k.1.trans h.1, fun f hf => k.2 f (h.2 f hf)⟩

theorem ArmKept.of_unasked {a a' : Arm} (h : unaskedArm a' = unaskedArm a) : ArmKept a a' :=
  ⟨(congrArg Arm.hand h :), fun _ hf => ((congrArg Arm.inFlight h :) : a'.inFlight = a.inFlight).trans hf⟩

/-- The owners that are jobs on which the aftermath may act. -/
def Shaken (c : Scope) (s : State) (o : Owner) : Prop :=
  ∃ r, o = .job r ∧ ∀ j, s.job? r.number = some j → ¬Firm c j

/-- What the aftermath of an event keeps. -/
structure Keeps (c : Scope) (s t : State) : Prop where
  map : t.map = s.map
  arm : ∀ x, ArmKept (s.arm x) (t.arm x)
  ring : ∀ b, BayCalm (s.station.ring.get b) (t.station.ring.get b)
  hatch : ∀ b, BayCalm (s.station.hatch.get b) (t.station.hatch.get b)
  job : ∀ n j, s.job? n = some j → ∃ j', t.job? n = some j' ∧ JobKept c j j'
  heard : Heard (Shaken c s) s t

namespace Keeps

variable {c : Scope} {s t u : State}

theorem refl (s : State) : Keeps c s s :=
  ⟨rfl, fun _ => .refl _, fun _ => .refl _, fun _ => .refl _, fun _ j h => ⟨j, h, .refl j⟩, .refl s⟩

theorem trans (h : Keeps c s t) (k : Keeps c t u) : Keeps c s u where
  map := k.map.trans h.map
  arm x := (h.arm x).trans (k.arm x)
  ring b := (h.ring b).trans (k.ring b)
  hatch b := (h.hatch b).trans (k.hatch b)
  job n j hj := by
    obtain ⟨j', hj', e⟩ := h.job n j hj
    obtain ⟨j'', hj'', e'⟩ := k.job n j' hj'
    exact ⟨j'', hj'', e.trans e'⟩
  heard := by
    refine h.heard.trans (k.heard.mono fun o ⟨r, ho, hr⟩ => ⟨r, ho, fun j hj hf => ?_⟩)
    obtain ⟨j', hj', e⟩ := h.job _ j hj
    exact hr j' hj' (hf.of_unasked (e.firm hf))

theorem foldl {ι : Type} {f : State → ι → State} {l : List ι} (h : ∀ s, ∀ i ∈ l, Keeps c s (f s i))
    (s : State) : Keeps c s (l.foldl f s) := by
  induction l generalizing s with
  | nil => exact refl s
  | cons i rest ih => exact (h s i (by simp)).trans (ih (fun s k hk => h s k (by simp [hk])) _)

theorem findSome {ι : Type} {f : ι → Option State} {l : List ι}
    (h : ∀ i ∈ l, ∀ t, f i = some t → Keeps c s t) (hu : Keeps c s u) : Keeps c s ((l.findSome? f).getD u) := by
  cases e : l.findSome? f with
  | none => exact hu
  | some t =>
    obtain ⟨i, hi, hf⟩ := List.exists_of_findSome?_eq_some e
    exact h i hi t hf

theorem ite {p : Prop} [Decidable p] (h : Keeps c s t) (k : Keeps c s u) : Keeps c s (if p then t else u) := by
  split <;> assumption

/-- With no hatch bay to be had before there is none afterwards. -/
theorem freeHatches (h : Keeps c s t) (k : s.freeHatches = []) : t.freeHatches = [] := by
  simp only [State.freeHatches, List.filter_eq_nil_iff, Bool.and_eq_true, decide_eq_true_eq] at k ⊢
  exact fun b hb e => k b hb ⟨(h.hatch b).free e.1, by rw [← h.map]; exact e.2⟩

end Keeps

section
variable {c : Scope} (s : State)

/-- A step that leaves the map, the arms, the bays, the jobs and the desk. -/
theorem keeps_of_same {t : State} (hm : t.map = s.map) (ha : t.arms = s.arms) (hs : t.station = s.station)
    (hj : t.work.jobs = s.work.jobs) (hd : t.desk = s.desk) : Keeps c s t where
  map := hm
  arm x := by cases x <;> simp only [State.arm, ha] <;> exact .refl _
  ring b := .inl (by rw [hs])
  hatch b := .inl (by rw [hs])
  job n j h := ⟨j, by rwa [State.job?, hj], .refl j⟩
  heard := heard_of_desk s hd

/-! ### Jobs read back -/

variable {s} in
theorem updateJob_listed {n : Nat} {j : Job} (f : Job → Job) (h : s.job? n = some j) :
    (s.updateJob n f).job? n = some (f j) := by rw [updateJob_job, h]; rfl

variable {s} in
theorem setJobState_listed {n : Nat} {j : Job} (t : JobState) (h : s.job? n = some j) :
    (s.setJobState n t).job? n = some { j with
      state := t, aging := if t = .waiting then .running s.policy.agingTicks else .stopped } :=
  updateJob_listed _ h

/-! ### Work on the arms alone (R70 to R79) -/

/-- From `s` to `t` the arms alone have been worked on, and each keeps its reel and its order in flight. -/
structure Armed (s t : State) : Prop where
  same : t = { s with arms := t.arms, sent := t.sent }
  arm : ∀ x, ArmKept (s.arm x) (t.arm x)

variable {s} in
theorem Armed.trans {t u : State} (h : Armed s t) (k : Armed t u) : Armed s u :=
  ⟨by rw [k.same, h.same], fun x => (h.arm x).trans (k.arm x)⟩

variable {s} in
theorem Armed.keeps {t : State} (h : Armed s t) : Keeps c s t where
  map := by rw [h.same]
  arm := h.arm
  ring b := .inl (by rw [h.same])
  hatch b := .inl (by rw [h.same])
  job n j hj := ⟨j, by rw [h.same]; exact hj, .refl j⟩
  heard := heard_of_desk s (by rw [h.same])

theorem Armed.refl : Armed s s := ⟨rfl, fun _ => .refl _⟩

theorem updateArm_armed (x : ArmId) (f : Arm → Arm) (h : ArmKept (s.arm x) (f (s.arm x))) :
    Armed s (s.updateArm x f) where
  same := by cases x <;> rfl
  arm y := by cases x <;> cases y <;> first | exact h | exact .refl _

theorem keepNext_armed (x : ArmId) (o : Order) : Armed s (s.keepNext x o) :=
  updateArm_armed s x _ ⟨rfl, fun _ h => h⟩

theorem sendOrder_armed (x : ArmId) (o : Order) (h : (s.arm x).inFlight = none) : Armed s (s.sendOrder x o) where
  same := by cases x <;> rfl
  arm y := by
    have sent : ArmKept (s.arm x) ((s.sendOrder x o).arm x) :=
      ⟨by cases x <;> rfl, fun f hf => by rw [h] at hf; simp at hf⟩
    cases x <;> cases y <;> first | exact sent | exact .refl _

theorem dispatch_armed (x : ArmId) (o : Order) : Armed s (s.dispatch x o) := by
  unfold State.dispatch
  split
  · next h =>
    simp only [Bool.and_eq_true, Option.isNone_iff_eq_none] at h
    exact sendOrder_armed s x o h.1
  · exact keepNext_armed s x o

theorem giveYield_armed (x : ArmId) (p : Nat) : Armed s (s.giveYield x p) :=
  (updateArm_armed s x (fun a => { a with state := .moving, claim := some (spanOf a.place [p]) })
    ⟨rfl, fun _ h => h⟩).trans (dispatch_armed _ x _)

theorem claim_armed (x : ArmId) (t : Span) : Armed s (s.updateArm x fun a => { a with claim := some t }) :=
  updateArm_armed s x _ ⟨rfl, fun _ h => h⟩

theorem formInFlight_armed (x : ArmId) (f : InFlight) (j : Job) : Armed s (s.formInFlight x f j) := by
  unfold State.formInFlight
  dsimp only
  split
  · exact claim_armed s x _
  · exact .refl s

theorem formClaim_armed (x : ArmId) (need : Span) (granted waits : State → State)
    (hg : ∀ t, Armed t (granted t)) (hw : ∀ t, Armed t (waits t)) : Armed s (s.formClaim x need granted waits) := by
  unfold State.formClaim
  split
  · exact (claim_armed s x need).trans (hg _)
  · split
    · split
      · exact (hw s).trans (giveYield_armed _ _ _)
      · exact hw s
    · exact hw s

theorem tryGo_armed (x : ArmId) : Armed s (s.tryGo x) := by
  unfold State.tryGo
  split
  · exact .refl s
  · split
    · exact .refl s
    · next o _ =>
      dsimp only
      split
      · exact .refl s
      · split
        · exact formInFlight_armed s x _ _
        · split
          · exact keepNext_armed s x o
          · split
            · exact .refl s
            · exact formClaim_armed s x _ _ _ (fun t => dispatch_armed t x o) fun t => keepNext_armed t x o

theorem retryArm_armed (x : ArmId) : Armed s (s.retryArm x) := by
  unfold State.retryArm
  dsimp only
  split
  · exact tryGo_armed s x
  · exact .refl s

theorem resumeArm_armed (x : ArmId) : Armed s (s.resumeArm x) := by
  unfold State.resumeArm
  dsimp only
  split
  · split
    · exact .refl s
    · exact dispatch_armed s x _
  · exact dispatch_armed s x _
  · exact retryArm_armed s x
  · exact .refl s

theorem resumeArms_keeps : Keeps c s s.resumeArms :=
  ((resumeArm_armed s .a).trans (resumeArm_armed _ .b)).keeps

theorem claimHome_armed (n : Nat) (x : ArmId) : Armed s (s.claimHome n x) := by
  unfold State.claimHome
  split
  · exact formClaim_armed s x _ id id .refl .refl
  · exact .refl s

theorem startRun_armed (x : ArmId) (k : JobRef) (o : Order) (need : Span) : Armed s (s.startRun x k o need) := by
  have move (f : Arm → Arm) (hf : ∀ a, ArmKept a (f a)) : Armed s (s.updateArm x f) := updateArm_armed s x f (hf _)
  unfold State.startRun
  split
  · exact (move (fun a => { a with state := .moving, job := some k, claim := some need })
      fun _ => ⟨rfl, fun _ h => h⟩).trans (dispatch_armed _ x o)
  · have waits := move (fun a => { a with state := .moving, job := some k, nextOrder := some o })
      fun _ => ⟨rfl, fun _ h => h⟩
    dsimp only
    split
    · exact waits.trans (giveYield_armed _ _ _)
    · exact waits

/-! ### Work for one job -/

/-- From `s` to `t` work has been done for the job of one number: of the others no more than the number of a
prompt has changed, and that only where the scope lets prompts be closed. -/
structure Solo (c : Scope) (n : Nat) (s t : State) : Prop where
  map : t.map = s.map
  arm : ∀ x, unaskedArm (t.arm x) = unaskedArm (s.arm x)
  ring : ∀ b, BayCalm (s.station.ring.get b) (t.station.ring.get b)
  hatch : ∀ b, BayCalm (s.station.hatch.get b) (t.station.hatch.get b)
  others : ∀ m j, m ≠ n → s.job? m = some j →
    ∃ p, t.job? m = some { j with prompt := p } ∧ (c.grants ∨ c.offers ∨ p = j.prompt)
  heard : Heard (OwnedBy n) s t

variable {s} in
theorem Solo.trans {n : Nat} {t u : State} (h : Solo c n s t) (k : Solo c n t u) : Solo c n s u where
  map := k.map.trans h.map
  arm x := (k.arm x).trans (h.arm x)
  ring b := (h.ring b).trans (k.ring b)
  hatch b := (h.hatch b).trans (k.hatch b)
  others m j hm hj := by
    obtain ⟨p, hp, hc⟩ := h.others m j hm hj
    obtain ⟨q, hq, hd⟩ := k.others m _ hm hp
    refine ⟨q, hq, ?_⟩
    rcases hd with hd | hd | hd
    · exact .inl hd
    · exact .inr (.inl hd)
    · rw [hd]; exact hc
  heard := h.heard.trans k.heard

variable {s} in
/-- Work for a job on which the aftermath acts. -/
theorem Solo.keeps {n : Nat} {t : State} (h : Solo c n s t)
    (hn : ∀ j, s.job? n = some j → ¬Firm c j ∧ ∃ j', t.job? n = some j' ∧ JobKept c j j') : Keeps c s t where
  map := h.map
  arm x := .of_unasked (h.arm x)
  ring := h.ring
  hatch := h.hatch
  job m j hj := by
    by_cases e : m = n
    · subst e; exact (hn j hj).2
    · obtain ⟨p, hp, hc⟩ := h.others m j e hj
      exact ⟨_, hp, .of_prompt j p hc⟩
  heard := h.heard.mono fun o ⟨r, ho, e⟩ => ⟨r, ho, fun j hj => (hn j (e ▸ hj)).1⟩

theorem Solo.refl (n : Nat) : Solo c n s s :=
  ⟨rfl, fun _ => rfl, fun _ => .refl _, fun _ => .refl _, fun _ j _ h => ⟨j.prompt, h, .inr (.inr rfl)⟩, .refl s⟩

/-- A step that leaves the map, the arms, the desk and all jobs but one. -/
theorem solo_of_same {n : Nat} {t : State} (hm : t.map = s.map) (ha : t.arms = s.arms) (hd : t.desk = s.desk)
    (hr : ∀ b, BayCalm (s.station.ring.get b) (t.station.ring.get b))
    (hh : ∀ b, BayCalm (s.station.hatch.get b) (t.station.hatch.get b))
    (hj : ∀ m, m ≠ n → t.job? m = s.job? m) : Solo c n s t where
  map := hm
  arm x := by cases x <;> simp only [State.arm, ha]
  ring := hr
  hatch := hh
  others m j e h := ⟨j.prompt, by rw [hj m e, h], .inr (.inr rfl)⟩
  heard := heard_of_desk s hd

theorem updateJob_solo (n : Nat) (f : Job → Job) : Solo c n s (s.updateJob n f) :=
  solo_of_same s rfl rfl rfl (fun _ => .refl _) (fun _ => .refl _) fun _ h => updateJob_job_ne _ _ _ _ h.symm

theorem setJobState_solo (n : Nat) (t : JobState) : Solo c n s (s.setJobState n t) := updateJob_solo s n _

theorem addJob_solo (n : Nat) (j : Job) : Solo c n s (s.addJob n j) :=
  solo_of_same s rfl rfl rfl (fun _ => .refl _) (fun _ => .refl _) fun _ h => addJob_job_ne _ _ _ _ h.symm

theorem updateDrive_solo (n : Nat) (d : DriveId) (f : Drive → Drive) : Solo c n s (s.updateDrive d f) :=
  solo_of_same s rfl rfl rfl (fun _ => .refl _) (fun _ => .refl _) fun _ _ => rfl

theorem setRing_solo (n : Nat) (b : RingBay) (t : BayState) (h : BayCalm (s.station.ring.get b) t) :
    Solo c n s (s.setRing b t) :=
  solo_of_same s rfl rfl rfl
    (setRing_calm (X := NoJob) (g := True) (o := True) s b t h).ring (fun _ => .refl _) fun _ _ => rfl

theorem setHatch_solo (n : Nat) (b : HatchBay) (t : BayState) (h : BayCalm (s.station.hatch.get b) t) :
    Solo c n s (s.setHatch b t) :=
  solo_of_same s rfl rfl rfl (fun _ => .refl _)
    (setHatch_calm (X := NoJob) (g := True) (o := True) s b t h).hatch fun _ _ => rfl

/-- A job's posting at once changes no other job. -/
theorem postNow_job_ne {q : OwedPrompt} {r : JobRef} {m : Nat} (hq : q.owner = .job r) (hm : m ≠ r.number) :
    (s.postNow q).job? m = s.job? m := by
  have recorded (u : State) (k : PromptKind) (i : Nat) : (u.recordPrompt (.job r) k i).job? m = u.job? m := by
    unfold State.recordPrompt
    dsimp only
    split
    · exact updateJob_job_ne _ _ _ _ hm.symm
    · rfl
  rw [postNow_eq, (settleBoth_settled _).same, hq]
  exact recorded _ _ _

/-- A job without an open prompt that posts one changes no other job. -/
theorem postForJob_job_ne {n m : Nat} {j : Job} (k : PromptKind) (p : PromptParams) (hj : s.job? n = some j)
    (hp : j.prompt = none) (hm : m ≠ n) : (s.postForJob n k p).job? m = s.job? m := by
  unfold State.postForJob
  rw [hj]
  dsimp only
  rw [post_eq, readied_none s k hj hp]
  split
  · exact postNow_job_ne _ rfl hm
  · rfl

theorem postForJob_solo (n : Nat) (k : PromptKind) (p : PromptParams)
    (h : c.grants ∨ c.offers ∨ ∀ j, s.job? n = some j → j.prompt = none) : Solo c n s (s.postForJob n k p) where
  map := congrArg Still.map (postForJob_asked s n k p).still
  arm := (postForJob_asked s n k p).arm
  ring b := .inl (by rw [(postForJob_asked s n k p).station])
  hatch b := .inl (by rw [(postForJob_asked s n k p).station])
  others m j hm hj := by
    obtain ⟨q, hq⟩ := (postForJob_asked s n k p).job_some hj
    refine ⟨q, hq, ?_⟩
    rcases h with h | h | h
    · exact .inl h
    · exact .inr (.inl h)
    · have same : (s.postForJob n k p).job? m = s.job? m := by
        cases e : s.job? n with
        | none => simp [State.postForJob, e]
        | some i => exact postForJob_job_ne s k p e (h i e) hm
      rw [hq, hj, Option.some.injEq] at same
      exact .inr (.inr (congrArg Job.prompt same :))
  heard := postForJob_heard s n k p

end

end Sys2Proof.WorkLists
end

section
/-!
SUPPORT. Every part of what follows an event keeps what the layer before speaks of.
-/

namespace Sys2Proof.WorkLists

open Machine DriveString

section
variable {c : Scope} (s : State)

/-! ### Creations (R50) -/

/-- No prompt is open for the job of a number. -/
def Silent (n : Nat) : Prop := ∀ j, s.job? n = some j → j.prompt = none

variable {s} in
theorem Silent.updateJob {n : Nat} (h : Silent s n) (f : Job → Job) (hf : ∀ j, (f j).prompt = j.prompt) :
    Silent (s.updateJob n f) n := by
  intro j hj
  rw [updateJob_job, Option.map_eq_some_iff] at hj
  obtain ⟨i, hi, rfl⟩ := hj
  rw [hf, h i hi]

theorem silent_addJob (n : Nat) (j : Job) (hj : j.prompt = none) : Silent (s.addJob n j) n := by
  intro i hi
  rw [addJob_job, Option.some.injEq] at hi
  rw [← hi]
  exact hj

theorem afterUnloaded_solo (n : Nat) (d : DriveId) (h : Silent s n) : Solo c n s (s.afterUnloaded n d) := by
  unfold State.afterUnloaded
  dsimp only
  split
  · exact (setJobState_solo s n _).trans (postForJob_solo _ n _ _ (.inr (.inr (h.updateJob _ fun _ => rfl))))
  · exact (updateJob_solo s n _).trans (setJobState_solo _ n _)

theorem create_keeps (d : DriveId) (k : OwedKind) : Keeps c s (s.create d k) := by
  unfold State.create
  split
  · exact keeps_of_same s rfl rfl rfl rfl rfl
  · next n hn =>
    have free : s.job? n = none := (freeJob_spec s n hn).1
    have named (j : Job) : Solo c n s ((s.addJob n j).nameDrive d n) :=
      (addJob_solo s n j).trans (updateDrive_solo _ n d _)
    have solo {t : State} (h : Solo c n s t) : Keeps c s t :=
      h.keeps fun j hj => by rw [free] at hj; simp at hj
    split
    · exact solo ((named _).trans (afterUnloaded_solo _ n d (silent_addJob s n _ rfl)))
    · exact solo ((named _).trans (setJobState_solo _ n _))
    · exact solo ((named _).trans (setJobState_solo _ n _))

theorem sweepDrive_keeps (d : DriveId) : Keeps c s (s.sweepDrive d) := by
  unfold State.sweepDrive
  dsimp only
  split
  · split
    · exact create_keeps s d _
    · exact .ite (create_keeps s d _) (.refl s)
    · exact .ite (keeps_of_same s rfl rfl rfl rfl rfl) (.refl s)
    · exact .refl s
  · exact .refl s

/-! ### The mode (R170, R173, R175) -/

theorem raiseEvent_keeps (k : NoticeClass) (d : NoticeData) : Keeps c s (s.raiseEvent k d) := by
  rw [raiseEvent_same]
  exact keeps_of_same s rfl rfl rfl rfl rfl

theorem withMode_keeps (m : Mode) (q : Bool) :
    Keeps c s { s with control := { s.control with mode := m, quiesceForced := q } } :=
  keeps_of_same s rfl rfl rfl rfl rfl

theorem enterMode_keeps (m : Governed) : Keeps c s (s.enterMode m.mode) := by
  unfold State.enterMode
  dsimp only
  split
  · exact .refl s
  · refine ((withMode_keeps s m.mode (forcedAfter s.mode m.mode s.control.quiesceForced)).trans
      (raiseEvent_keeps _ .modeChange (.modeChange m.mode s.control.door))).trans ?_
    split
    · exact .refl _
    · cases m with
      | run => exact (Keeps.foldl (fun t d _ => sweepDrive_keeps t d) _).trans (resumeArms_keeps _)
      | quiescing => exact resumeArms_keeps _
      | quiesced => exact resumeArms_keeps _

theorem endHoming_keeps : Keeps c s s.endHoming := by
  unfold State.endHoming
  split
  · exact .ite (enterMode_keeps s _) (.refl s)
  · exact .refl s

theorem quiesceCheck_keeps : Keeps c s s.quiesceCheck := by
  unfold State.quiesceCheck
  exact .ite (enterMode_keeps s .quiesced) (.refl s)

/-! ### Bays (R82, R84, R97) -/

/-- A job on which the aftermath acts, held unless bays are offered. -/
abbrev Acted (c : Scope) (s : State) (n : Nat) : Prop :=
  ∀ j, s.job? n = some j → ¬Firm c j ∧ (¬c.offers → ∃ r, j.state = .held r)

/-- A job changed and then given a state in which it is held no longer. -/
theorem acted_keeps {n : Nat} {t : JobState} {u : State} (f : Job → Job) (hu : Solo c n s u)
    (hj : u.job? n = s.job? n) (h : Acted c s n)
    (hf : ∀ j, request (f j) = request j ∧ (f j).volume = j.volume ∧ (f j).serial = j.serial)
    (ht : ∀ r, t ≠ .held r) : Keeps c s ((u.updateJob n f).setJobState n t) := by
  refine (hu.trans ((updateJob_solo u n f).trans (setJobState_solo _ n t))).keeps fun j hn => ?_
  obtain ⟨acted, held⟩ := h j hn
  refine ⟨acted, _, setJobState_listed t (updateJob_listed f (hj.trans hn)), ?_⟩
  exact .of_acted acted held (hf j).1 (hf j).2 ht

theorem takeHatch_keeps (n : Nat) (x : ArmId) (b : HatchBay) (t : State) (h : Acted c s n)
    (ht : State.takeHatch n x s b = some t) : Keeps c s t := by
  unfold State.takeHatch at ht
  split at ht
  · simp at ht
  · split at ht
    · next hb =>
      obtain rfl := Option.some.inj ht
      simp only [Bool.and_eq_true, decide_eq_true_eq] at hb
      refine .trans ?_ (tryGo_armed _ x).keeps
      exact acted_keeps s _ (setHatch_solo s n b _ (.inr ⟨hb.1.1, _, rfl⟩)) rfl h (fun _ => ⟨rfl, rfl, rfl⟩)
        fun _ e => by simp at e
    · simp at ht

theorem takeRing_keeps (n : Nat) (x : ArmId) (b : RingBay) (t : State) (h : Acted c s n)
    (ht : State.takeRing n x s b = some t) : Keeps c s t := by
  unfold State.takeRing at ht
  split at ht
  · simp at ht
  · split at ht
    · next hb =>
      obtain rfl := Option.some.inj ht
      simp only [Bool.and_eq_true, decide_eq_true_eq] at hb
      refine .trans ?_ (tryGo_armed _ x).keeps
      exact acted_keeps s _ (setRing_solo s n b _ (.inr ⟨hb.1.1, _, rfl⟩)) rfl h (fun _ => ⟨rfl, rfl, rfl⟩)
        fun _ e => by simp at e
    · simp at ht

/-- A hatch bay is taken only where one is to be had. -/
theorem takeHatch_free {n : Nat} {x : ArmId} {b : HatchBay} {t : State}
    (ht : State.takeHatch n x s b = some t) : s.freeHatches ≠ [] := by
  unfold State.takeHatch at ht
  split at ht
  · simp at ht
  · split at ht
    · next hb =>
      simp only [Bool.and_eq_true] at hb
      refine List.ne_nil_of_mem (a := b) ?_
      have listed : b ∈ allHatchBays := by fin_cases b <;> decide
      simp only [State.freeHatches, List.mem_filter, Bool.and_eq_true]
      exact ⟨listed, hb.1⟩
    · simp at ht

/-- Where hatch bays are not taken none is to be had. -/
abbrev Barred (c : Scope) (s : State) : Prop := ¬c.hatches → s.freeHatches = []

theorem retryHeld_keeps (n : Nat) (x : ArmId) (hh : Barred c s) : Keeps c s (s.retryHeld n x) := by
  unfold State.retryHeld
  split
  · next j hj =>
    have acted {r} (e : j.state = .held r) (hf : ¬Firm c j) : Acted c s n := fun i hi => by
      obtain rfl := Option.some.inj (hj.symm.trans hi)
      exact ⟨hf, fun _ => ⟨r, e⟩⟩
    split
    · next e =>
      refine .findSome (fun b _ t ht => takeHatch_keeps s n x b t (acted e fun hf => ?_) ht) (claimHome_armed s n x).keeps
      exact hf.hatch e (by_contra fun k => takeHatch_free s ht (hh k))
    · split
      · next e =>
        exact .findSome (fun b _ t ht => takeRing_keeps s n x b t (acted e fun hf => hf.ring e) ht)
          (claimHome_armed s n x).keeps
      · exact .refl s
  · exact .refl s

theorem retryOne_keeps (x : ArmId) (hh : Barred c s) : Keeps c s (s.retryOne x) := by
  unfold State.retryOne
  split
  · exact .ite (retryArm_armed s x).keeps (retryHeld_keeps s _ x hh)
  · exact .refl s

theorem retryAfter_keeps (before : State) (x : ArmId) (hh : Barred c s) : Keeps c s (State.retryAfter before x s) := by
  unfold State.retryAfter
  exact .ite (retryOne_keeps s x hh) (.refl s)

/-! ### Offers (R97) -/

theorem enterAt_keeps (n : Nat) (b : HatchBay) (ho : c.offers)
    (h : ∀ j, s.job? n = some j → j.kind = .enter) (hb : s.station.hatch.get b = .free) :
    Keeps c s (s.enterAt n b) := by
  unfold State.enterAt
  split
  · exact .refl s
  · next j hj =>
    let u := ((s.setHatch b (.reserved (j.ref n))).updateJob n fun j => { j with hatchBay := some b }).setJobState n .manual
    have solo : Solo c n s u := ((setHatch_solo s n b _ (.inr ⟨hb, _, rfl⟩)).trans (updateJob_solo _ n _)).trans
      (setJobState_solo _ n _)
    have listed := setJobState_listed .manual (updateJob_listed (s := s.setHatch b (.reserved (j.ref n)))
      (fun j => { j with hatchBay := some b }) hj)
    obtain ⟨p, hp⟩ := (postForJob_asked u n .placeInHatch { serial := j.serial, bay := some (.hatch b) }).job_some listed
    refine (solo.trans (postForJob_solo u n _ _ (.inr (.inl ho)))).keeps fun i hi => ?_
    obtain rfl := Option.some.inj (hj.symm.trans hi)
    have acted : ¬Firm c j := fun hf => (hf.offered ho).2 (h j hj)
    exact ⟨acted, _, hp, .of_acted acted (fun k => absurd ho k) rfl ⟨rfl, rfl⟩ fun r e => by simp at e⟩

/-- An offer goes to a job with an arm. -/
theorem offered_acted {n : Nat} {x : ArmId} (ho : c.offers) (h : (s.job? n).bind Job.arm = some x) :
    Acted c s n := by
  intro j hj
  refine ⟨fun hf => ?_, fun k => absurd ho k⟩
  rw [hj, Option.bind_some, (hf.offered ho).1] at h
  simp at h

theorem offerRing_keeps (b : RingBay) (ho : c.offers) : Keeps c s (s.offerRing b) := by
  unfold State.offerRing
  refine .findSome (fun n _ t ht => ?_) (.refl s)
  split at ht
  · next x hx => exact takeRing_keeps s n x b t (offered_acted s ho hx) ht
  · simp at ht

theorem offerHatch_keeps (b : HatchBay) (ho : c.offers) : Keeps c s (s.offerHatch b) := by
  unfold State.offerHatch
  dsimp only
  split
  · next t ht =>
    obtain ⟨n, _, ht⟩ := List.exists_of_findSome?_eq_some ht
    split at ht
    · next x hx => exact takeHatch_keeps s n x b t (offered_acted s ho hx) ht
    · simp at ht
  · split
    · next hb =>
      simp only [Bool.and_eq_true, decide_eq_true_eq] at hb
      split
      · next n hn =>
        refine enterAt_keeps s n b ho (fun j hj => ?_) hb.1
        have := List.find?_some hn
        rw [hj] at this
        simp only [Option.any_some, Bool.and_eq_true, decide_eq_true_eq] at this
        exact this.1
      · exact .refl s
    · exact .refl s

theorem offerBays_keeps (before : State)
    (h : c.offers ∨ s.freedRings before = [] ∧ s.freedHatches before = []) : Keeps c s (State.offerBays before s) := by
  unfold State.offerBays
  dsimp only
  rcases h with ho | ⟨hr, hh⟩
  · exact (Keeps.foldl (fun t b _ => offerRing_keeps t b ho) s).trans
      (Keeps.foldl (fun t b _ => offerHatch_keeps t b ho) _)
  · rw [hr, hh]
    exact .refl s

/-! ### Runs (R60, R78) -/

/-- A WAITING job that is considered, its volume known or a candidate chosen for it. -/
structure Weighed (c : Scope) (s : State) (n : Nat) (i j : Job) : Prop where
  listed : s.job? n = some i
  waits : i.state = .waiting
  request : request j = request i
  volume : i.volume ≠ none → j = i
  grants : c.grants

theorem reserveBays_solo (n : Nat) (k : JobRef) {r : RunOption}
    (ring : ∀ b, r.ring = some b → s.station.ring.get b = .free)
    (hatch : ∀ b, r.hatch = some b → s.station.hatch.get b = .free) : Solo c n s (s.reserveBays r k) := by
  unfold State.reserveBays
  dsimp only
  cases hr : r.ring with
  | none =>
    cases hh : r.hatch with
    | none => exact .refl s n
    | some b => exact setHatch_solo s n b _ (.inr ⟨hatch b hh, _, rfl⟩)
  | some b =>
    have rings : Solo c n s (s.setRing b (.reserved k)) := setRing_solo s n b _ (.inr ⟨ring b hr, _, rfl⟩)
    cases hh : r.hatch with
    | none => exact rings
    | some b' => exact rings.trans (setHatch_solo _ n b' _ (.inr ⟨hatch b' hh, _, rfl⟩))

theorem reserveBays_job (r : RunOption) (k : JobRef) (n : Nat) : (s.reserveBays r k).job? n = s.job? n := by
  unfold State.reserveBays
  dsimp only
  cases r.ring <;> cases r.hatch <;> rfl

theorem granted_keeps {n : Nat} {i j : Job} {x : ArmId} {r : RunOption} (w : Weighed c s n i j)
    (hr : r ∈ s.runOptions j) : Keeps c s (granted s n j x r) := by
  obtain ⟨ring, hatch⟩ := runOptions_free s j r hr
  have recorded : Solo c n s (s.recordGrant n j x r) := (updateJob_solo s n _).trans (setJobState_solo _ n _)
  have reserved : Solo c n (s.recordGrant n j x r) (granted s n j x r) := reserveBays_solo _ n _ ring hatch
  have listed : (granted s n j x r).job? n = some (grantedJob j x r) :=
    (reserveBays_job _ r _ n).trans (setJobState_listed .assigned (updateJob_listed _ w.listed))
  refine (recorded.trans reserved).keeps fun k hk => ?_
  obtain rfl := Option.some.inj (w.listed.symm.trans hk)
  have acted : ¬Firm c i := fun hf => hf.waiting w.waits w.grants
  refine ⟨acted, _, listed, ⟨w.request, fun hv => ?_, fun hf => absurd hf acted, fun k => absurd w.grants k,
    fun r e => by simp [grantedJob] at e, fun _ P hP hi => ?_⟩⟩
  · obtain rfl := w.volume hv
    exact ⟨rfl, rfl⟩
  · obtain rfl := w.volume (hP.going i hi).2
    exact hP.grant s j x r hi w.waits hr

theorem propose_keeps {n : Nat} {i j : Job} {r : RunOption} {t : State} (w : Weighed c s n i j)
    (hr : r ∈ s.runOptions j) (ht : State.propose n j s r = some t) : Keeps c s t := by
  unfold State.propose at ht
  dsimp only at ht
  split at ht
  · split at ht
    · next x _ =>
      obtain rfl := Option.some.inj ht
      refine (granted_keeps s w hr (x := x)).trans ?_
      unfold State.grant granted
      dsimp only
      split
      · exact .refl _
      · exact (startRun_armed _ x _ _ _).keeps
    · simp at ht
  · simp at ht

theorem holdForPool_keeps {n : Nat} {j : Job} (hj : s.job? n = some j) (hs : j.state = .waiting)
    (hv : j.volume = none) (hg : c.grants) : Keeps c s (s.holdForPool n j) := by
  have posts (r : HoldReason) (k : PromptKind) (p : PromptParams) (hr : r = .noScratch ∨ r = .noCleaner) :
      Keeps c s ((s.setJobState n (.held r)).postForJob n k p) := by
    obtain ⟨q, hq⟩ := (postForJob_asked (s.setJobState n (.held r)) n k p).job_some (setJobState_listed (.held r) hj)
    refine ((setJobState_solo s n _).trans (postForJob_solo _ n k p (.inl hg))).keeps fun i hi => ?_
    obtain rfl := Option.some.inj (hj.symm.trans hi)
    have acted : ¬Firm c j := fun hf => hf.waiting hs hg
    exact ⟨acted, _, hq, ⟨rfl, fun k => absurd hv k, fun hf => absurd hf acted, fun k => absurd hg k,
      fun r' e => .inr (by obtain rfl := JobState.held.inj e; exact hr), fun _ P hP hi => absurd hv (hP.going j hi).2⟩⟩
  unfold State.holdForPool
  exact .ite (posts _ _ _ (.inr rfl)) (posts _ _ _ (.inl rfl))

theorem consider_keeps (n : Nat) (hg : ¬c.grants → noIdleArm s) : Keeps c s (s.consider n) := by
  unfold State.consider
  split
  · exact .refl s
  · next j hj =>
    split
    · next h =>
      simp only [Bool.and_eq_true, decide_eq_true_eq] at h
      obtain ⟨⟨idle, waits⟩, -⟩ := h
      have grants : c.grants := by
        by_contra k
        obtain ⟨ha, hb⟩ := hg k
        simp [State.anyIdle, ha, hb] at idle
      split
      · next p hp =>
        have hv := poolWanted_volume hp
        split
        · exact holdForPool_keeps s hj waits hv grants
        · next v _ =>
          have w : Weighed c s n j (s.withCandidate j v) := ⟨hj, waits, rfl, fun k => absurd hv k, grants⟩
          exact .findSome (fun r hr t ht => propose_keeps s w hr ht) (.refl s)
      · exact .findSome (fun r hr t ht => propose_keeps s ⟨hj, waits, rfl, fun _ => rfl, grants⟩ hr ht) (.refl s)
    · exact .refl s

theorem assignmentPass_keeps (hg : ¬c.grants → noIdleArm s) : Keeps c s s.assignmentPass := by
  have pass (l : List Nat) : ∀ t, (¬c.grants → noIdleArm t) → Keeps c t (l.foldl State.consider t) := by
    induction l with
    | nil => exact fun t _ => .refl t
    | cons n rest ih =>
      intro t ht
      have calm : Calm NoJob c.grants True t (t.consider n) := consider_calm t n ht
      exact (consider_keeps t n ht).trans (ih _ fun k => calm.noIdle (ht k))
  exact pass _ s hg

/-! ### What follows an event -/

/-- What follows an event keeps what its scope says: runs are granted only where an arm may be IDLE, hatch bays
taken where one is to be had, and bays offered when one has become free. -/
theorem finish_keeps (before : State) (hg : ¬c.grants → noIdleArm s) (hh : Barred c s)
    (ho : c.offers ∨ s.freedRings before = [] ∧ s.freedHatches before = []) : Keeps c s (State.finish before s) := by
  have calm₁ : Calm AnyJob True True s s.endHoming := endHoming_calm s
  have homed : Keeps c s s.endHoming := endHoming_keeps s
  have calm₂ := calm₁.trans (offerBays_calm s.endHoming before (.inl fun _ => trivial))
  have offered := homed.trans (offerBays_keeps s.endHoming before
    (ho.imp_right fun ⟨hr, hh⟩ => calm₁.freed s before hr hh))
  have retry {t : State} (h : Keeps c s t) (x : ArmId) : Keeps c s (State.retryAfter before x t) :=
    h.trans (retryAfter_keeps t before x fun k => h.freeHatches (hh k))
  have retried := retry (retry (retry offered .a) .b) .a
  have calm₃ := ((calm₂.trans (retryAfter_calm _ before .a)).trans
    (retryAfter_calm _ before .b)).trans (retryAfter_calm _ before .a)
  have passed := retried.trans (assignmentPass_keeps _ fun k => calm₃.noIdle (hg k))
  unfold State.finish
  dsimp only
  split
  · exact passed.trans (quiesceCheck_keeps _)
  · exact retried.trans (quiesceCheck_keeps _)

/-- The scope of an event that frees no bay. -/
abbrev Scope.granting : Scope := ⟨True, True, False⟩

/-- What follows an event that leaves the station as it was. -/
theorem finish_keeps_station (before : State) (h : s.station = before.station) :
    Keeps .granting s (State.finish before s) :=
  finish_keeps s before (fun k => absurd trivial k) (fun k => absurd trivial k) (.inr (freed_none h))

end

end Sys2Proof.WorkLists
end

section
/-!
O22: a CANCEL refused, TOO_LATE, or of a job with its reel in hand (R63, R64).
-/

namespace Sys2Proof.WorkLists

open Machine DriveString

variable {s t : State}

/-! ### The job a CANCEL names (R63) -/

theorem exec_cancel_found {l : Link} {tag n : Nat} {c : CancelTarget} (h : cancels s l n c) :
    exec (.cancel l tag c) s = .next (s.cancelJob l tag n) := by
  change execCancel l tag c s = _
  cases c with
  | byTag t =>
    have h : s.jobByTag l t = some n := h
    simp only [execCancel, h]
  | byNumber m =>
    obtain ⟨rfl, hp⟩ := h
    simp only [execCancel, hp, if_true]

/-! ### The positions of R64's list -/

theorem demountWaits_false {j : Job} (h : j.state = .assigned ∨ j.state = .atRing ∨
    j.state ≠ .unloadWait ∧ j.state ≠ .manual ∧ ∀ d, j.legs[j.leg]? ≠ some (.pull d)) : j.demountWaits = false := by
  rcases h with h | h | ⟨hu, hm, hp⟩
  · simp [Job.demountWaits, h]
  · simp [Job.demountWaits, h]
  · have leg : ∀ d, j.currentLeg ≠ some (.pull d) := hp
    unfold Job.demountWaits
    dsimp only
    split <;> first
      | contradiction
      | rfl
      | (split
         · next d h => exact absurd h (leg d)
         · rfl)

theorem cleanLoaded_iff (j : Job) : j.cleanLoaded = true ↔
    j.state = .cleanWait ∨ j.state = .manual ∨ ∃ d, j.legs.head? = some (.pull d) := by
  unfold Job.cleanLoaded
  simp only [Bool.or_eq_true, decide_eq_true_eq, or_assoc]
  cases j.legs with
  | nil => simp
  | cons g rest => cases g <;> simp

/-- In a position of the list a CANCEL is refused. -/
theorem cancelTooLate_of {j : Job} (h : tooLate j) : j.cancelTooLate = true := by
  rcases h with h | h | ⟨h, hf⟩ | ⟨hk, h⟩ | ⟨hk, hs, h⟩ | ⟨hk, hs, hm⟩
  · simp [Job.cancelTooLate, h]
  · simp [Job.cancelTooLate, h]
  · simp [Job.cancelTooLate, h, hf]
  · simp [Job.cancelTooLate, hk, demountWaits_false h]
  · simp [Job.cancelTooLate, hk, hs, (cleanLoaded_iff j).mpr h]
  · simp [Job.cancelTooLate, hk, hs, hm]

/-- A MOUNT, EJECT or CLEAN in no position of the list is cancelled. -/
theorem cancelTooLate_not {j : Job} (hk : j.kind = .mount ∨ j.kind = .eject ∨ j.kind = .clean)
    (h : ¬tooLate j) : j.cancelTooLate = false := by
  simp only [tooLate, not_or] at h
  obtain ⟨returning, wrong, full, -, clean, -⟩ := h
  have list : (j.returning || (j.state = .held .hatchFull && j.stowFaulted) || j.state = .held .wrongReel) = false := by
    simpa [returning, wrong] using full
  rcases hk with hk | hk | hk
  · simpa [Job.cancelTooLate, hk] using list
  · simpa [Job.cancelTooLate, hk] using list
  · have loaded : (j.cleanLoaded && j.state ≠ .held .hatchFull) = false := by
      rw [Bool.eq_false_iff]
      intro k
      simp only [Bool.and_eq_true, decide_eq_true_eq] at k
      exact clean ⟨hk, k.2, (cleanLoaded_iff j).mp k.1⟩
    simp only [Job.cancelTooLate, hk, list, loaded, Bool.or_false]

/-! ### A reel in hand is turned home (R64) -/

/-- A job ASSIGNED to an arm that goes on with it: the job, the hand and the order in flight stand to the end
of the event. -/
theorem goesOn_stands {n : Nat} {i : Job} {x : ArmId} (hi : t.job? n = some i) (ha : i.state = .assigned)
    (hs : t.station = s.station) : let u := State.finish s (t.tryGo x)
      (∃ j', u.job? n = some j' ∧ unaskedJob j' = unaskedJob i) ∧ ArmKept (t.arm x) (u.arm x) := by
  intro u
  have went := (tryGo_armed t x).keeps (c := .granting)
  have station : (t.tryGo x).station = s.station := by rw [(tryGo_armed t x).same]; exact hs
  have kept := went.trans (finish_keeps_station (t.tryGo x) s station)
  obtain ⟨j', hj', k⟩ := kept.job n i hi
  exact ⟨⟨j', hj', k.firm ⟨by simp [ha], by simp [ha], by simp [ha], False.elim⟩⟩, kept.arm x⟩

/-- A job that is turned home has one STOW before it (R64). -/
theorem turnHome_listed {n v : Nat} {j : Job} {k : Cell} (hj : s.job? n = some j) (hv : j.volume = some v)
    (hk : s.homeCell v = some k) : (s.turnHome n).job? n = some { j with
      returning := true, legs := [.stow k], leg := 0, retryUsed := j.retryUsed && s.loadInFlight j } := by
  rw [State.turnHome, updateJob_listed _ hj]
  simp [hv, State.homeLeg, hk]

section
variable {l : Link} {tag n v : Nat} {j : Job} {x : ArmId} {k : Cell}

/-- The state in which a CANCEL has been accepted and its job marked. -/
def marked (s : State) (l : Link) (tag n : Nat) : State :=
  (s.respond l tag .cancel (.acceptedJob n)).updateJob n fun j => { j with cancelled := true }

/-- What an accepted CANCEL does for a job with its reel in hand. -/
theorem actOnCancel_inHand (hk : j.kind = .mount ∨ j.kind = .eject ∨ j.kind = .clean) (ha : j.arm = some x)
    (hh : (s.arm x).hand = .loaded (some v)) (ho : ∀ o, j.currentOrder = some o → o.isTake = false) :
    (j.state = .assigned → (s.respond l tag .cancel (.acceptedJob n)).actOnCancel n j =
      ((marked s l tag n).turnHome n).tryGo x) ∧
    (j.state = .held .ringFull ∨ j.state = .held .hatchFull →
      (s.respond l tag .cancel (.acceptedJob n)).actOnCancel n j =
        (((marked s l tag n).turnHome n).setJobState n .assigned).tryGo x) := by
  have take : j.toTake = false := by
    unfold Job.toTake
    cases e : j.currentOrder with
    | none => rfl
    | some o => exact ho o e
  have inHand : (marked s l tag n).reelInHand j = true := by
    have hand : ((marked s l tag n).arm x).hand = .loaded (some v) := hh
    simp [State.reelInHand, ha, hand, Hand.isEmpty, take]
  have goes (u : State) : u.goOn j = u.tryGo x := by rw [State.goOn, ha]
  refine ⟨fun hs => ?_, fun hs => ?_⟩
  · rcases hk with hk | hk | hk <;> simp only [State.actOnCancel, hk, hs]
    all_goals
      change (if (marked s l tag n).reelInHand j = true then ((marked s l tag n).turnHome n).goOn j else _) = _
      rw [if_pos inHand, goes]
  · rcases hs with hs | hs <;> rcases hk with hk | hk | hk <;> simp only [State.actOnCancel, hk, hs]
    all_goals
      change (if (marked s l tag n).reelInHand j = true then
        (if _ then _ else (((marked s l tag n).turnHome n).setJobState n .assigned).goOn j) else _) = _
      rw [if_pos inHand, if_neg (by simp), goes]

/-- The job of a CANCEL with its reel in hand is turned home, and an order in flight goes on (R64). -/
theorem cancel_turnsHome {c : CancelTarget} (hc : cancels s l n c) (hj : s.job? n = some j)
    (hn : j.cancelled = false) (hl : j.cancelTooLate = false)
    (hk : j.kind = .mount ∨ j.kind = .eject ∨ j.kind = .clean) (ha : j.arm = some x)
    (hv : j.volume = some v) (hm : s.homeCell v = some k) (hh : (s.arm x).hand = .loaded (some v))
    (ho : ∀ o, j.currentOrder = some o → o.isTake = false)
    (hs : j.state = .assigned ∧ (s.arm x).inFlight ≠ none ∨ j.state = .held .ringFull ∨ j.state = .held .hatchFull) :
    ∃ t j', exec (.cancel l tag c) s = .next t ∧ sentFirst (response l tag .cancel (.acceptedJob n)) s t ∧
      t.job? n = some j' ∧ j'.state = .assigned ∧ j'.arm = some x ∧ j'.cancelled = true ∧ j'.returning = true ∧
      j'.legs = [.stow k] ∧ j'.leg = 0 ∧ j'.origin = j.origin ∧ (t.arm x).hand = .loaded (some v) ∧
      (j.state = .assigned → (t.arm x).inFlight = (s.arm x).inFlight) ∧ unchangedBut aftermath s t := by
  obtain ⟨flying, held⟩ := actOnCancel_inHand (s := s) (l := l) (tag := tag) (n := n) hk ha hh ho
  have turned := turnHome_listed (s := marked s l tag n) (updateJob_listed _ hj) hv hm
  obtain ⟨w, i, acts, listed, assigned, turn, desk⟩ : ∃ (w : State) (i : Job),
      (s.respond l tag .cancel (.acceptedJob n)).actOnCancel n j = w.tryGo x ∧ w.job? n = some i ∧
      i.state = .assigned ∧
      (i.arm = some x ∧ i.cancelled = true ∧ i.returning = true ∧ i.legs = [.stow k] ∧ i.leg = 0 ∧
        i.origin = j.origin) ∧
      w = { s.respond l tag .cancel (.acceptedJob n) with work := w.work } := by
    rcases hs with ⟨hs, -⟩ | hs
    · exact ⟨_, _, flying hs, turned, hs, ⟨ha, rfl, rfl, rfl, rfl, rfl⟩, rfl⟩
    · exact ⟨_, _, held hs, setJobState_listed .assigned turned, rfl, ⟨ha, rfl, rfl, rfl, rfl, rfl⟩, rfl⟩
  obtain ⟨⟨j', hj', e⟩, hand, flight⟩ := goesOn_stands (s := s) (x := x) listed assigned (by rw [desk]; rfl)
  have arm : w.arm x = s.arm x := by rw [desk]; rfl
  rw [arm] at hand flight
  obtain ⟨iarm, icancelled, ireturning, ilegs, ileg, iorigin⟩ := turn
  have still : w.still = s.still := by rw [desk]; rfl
  refine ⟨State.finish s (w.tryGo x), j', ?_, ?_, hj', ((congrArg Job.state e :).trans assigned),
    ((congrArg Job.arm e :).trans iarm), ((congrArg Job.cancelled e :).trans icancelled),
    ((congrArg Job.returning e :).trans ireturning), ((congrArg Job.legs e :).trans ilegs),
    ((congrArg Job.leg e :).trans ileg), ((congrArg Job.origin e :).trans iorigin), hand.trans hh, ?_, ?_⟩
  · rw [exec_cancel_found hc, State.cancelJob, hj]
    simp only [hn, hl, Bool.false_eq_true, if_false]
    rw [acts]
  · refine sentFirst_of_prefix ?_
    have sent : w.sent = s.sent ++ [response l tag .cancel (.acceptedJob n)] := by rw [desk]; rfl
    rw [← sent]
    exact ((tryGo_calm (X := NoJob) (g := True) (o := True) w x).sent).trans (finish_calm_any _ s).sent
  · intro k
    obtain ⟨f, hf⟩ : ∃ f, (s.arm x).inFlight = some f := by
      rcases hs with ⟨-, hs⟩ | hs | hs
      · exact Option.ne_none_iff_exists'.mp hs
      · rw [hs] at k; simp at k
      · rw [hs] at k; simp at k
    rw [hf]
    exact flight f hf
  · exact unchangedBut_of_still ((finish_still _ s).trans ((tryGo_still w x).trans still))

end

/-- Settles O22: the answers of the list, and the turn of a job with its reel in hand. -/
theorem cancelJudged : Obligations.CancelJudged := by
  intro s l tag answers
  refine ⟨fun t h => ?_, fun n hp hn => ?_, fun n hp => ?_, fun c n j hc hj => ⟨fun hx => ?_, fun hx hl => ?_,
    fun x v k hw hx hl hk hv hm hh ho hs => ?_⟩⟩
  · change execCancel l tag (.byTag t) s = _
    simp only [execCancel, h]
    rfl
  · have found : cancels s l n (.byNumber n) := ⟨rfl, hp⟩
    exact (exec_cancel_found found).trans (by rw [State.cancelJob, hn]; rfl)
  · change execCancel l tag (.byNumber n) s = _
    rw [execCancel, if_neg hp]
    rfl
  · exact (exec_cancel_found hc).trans (by simp only [State.cancelJob, hj, hx, if_true]; rfl)
  · refine (exec_cancel_found hc).trans ?_
    simp only [State.cancelJob, hj, hx, cancelTooLate_of hl, Bool.false_eq_true, if_false, if_true]
    rfl
  · exact cancel_turnsHome hc hj hx (cancelTooLate_not hk hl) hk hw.2.2 hv hm hh ho hs

end Sys2Proof.WorkLists
end

section
/-!
SUPPORT. The aging of a job and the reminder of a prompt (R59, R121, R122).
-/

namespace Sys2Proof.WorkLists

open Machine DriveString

variable {s t : State}

/-! ### Aging (R59) -/

theorem exec_agingExpiry {n : Nat} {j : Job} (hj : s.job? n = some j) (hs : j.state = .waiting)
    (ha : j.aging.isRunning = true) : exec (.agingExpiry n) s = .next (State.finish s (s.ageJob n)) := by
  change execAgingExpiry n s = _
  simp [execAgingExpiry, hj, hs, ha]

/-- A job that has aged. -/
def aged (s : State) (j : Job) : Job :=
  { j with
    effective := if 3 ≤ j.effective then j.effective else j.effective + 1
    aging := .running s.policy.agingTicks }

/-- The scope of an event while no arm is idle that frees no bay. -/
abbrev Scope.busy : Scope := ⟨False, True, False⟩

/-- An aged job keeps its rise, and while no arm is idle it stands as it is. -/
theorem ageJob_stands {n : Nat} {j : Job} (hj : s.job? n = some j) (hs : j.state = .waiting) :
    ∃ j', (State.finish s (s.ageJob n)).job? n = some j' ∧ j'.effective = (aged s j).effective ∧
      (noIdleArm s → j' = aged s j) := by
  have listed : (s.ageJob n).job? n = some (aged s j) := updateJob_listed _ hj
  obtain ⟨j', hj', kept⟩ := (finish_keeps_station (s.ageJob n) s rfl).job n _ listed
  refine ⟨j', hj', (congrArg Job.effective kept.request :), fun idle => ?_⟩
  have busy : Keeps .busy (s.ageJob n) (State.finish s (s.ageJob n)) :=
    finish_keeps _ s (fun _ => idle) (fun k => absurd trivial k) (.inr (freed_none rfl))
  obtain ⟨i, hi, same⟩ := busy.job n _ listed
  obtain rfl := Option.some.inj (hj'.symm.trans hi)
  refine same.same id id ⟨fun _ => id, ?_, fun h => ?_, False.elim⟩
  · rw [show (aged s j).state = .waiting from hs]; simp
  · rw [show (aged s j).state = .waiting from hs] at h; simp at h

/-! ### Reminders (R121, R122) -/

theorem updatePrompt_prompt {n : Nat} {p : Prompt} (f : Prompt → Prompt) (hp : s.prompt? n = some p)
    (hf : ∀ q, (f q).number = q.number) : (s.updatePrompt n f).prompt? n = some (f p) := by
  have number : p.number = n := by simpa using List.find?_some hp
  have same : (fun q : Prompt => decide (q.number = n)) ∘ (fun q => if q.number = n then f q else q) =
      fun q => decide (q.number = n) := by
    funext q
    by_cases e : q.number = n <;> simp [e, hf]
  have hp : s.desk.prompts.find? (fun q => q.number = n) = some p := hp
  simp only [State.prompt?, State.updatePrompt, List.find?_map, same, hp, Option.map_some, number, if_true]

/-- Each console whose area holds a prompt is sent the frame. -/
theorem tellHolders_sent (n : Nat) (f : ConsoleFrame) : s.tellHolders n f = { s with
    sent := s.sent ++ (allConsoles.filter fun c => (s.console c).area.contains n).map fun c => .console c f } := by
  have told (l : List Console) : ∀ u : State, u.desk = s.desk →
      l.foldl (fun t c => if (t.console c).area.contains n then t.tellConsole c f else t) u = { u with
        sent := u.sent ++ (l.filter fun c => (s.console c).area.contains n).map fun c => .console c f } := by
    induction l with
    | nil => intro u _; simp
    | cons c rest ih =>
      intro u h
      have area : u.console c = s.console c := by simp only [State.console, h]
      rw [List.foldl_cons, area, List.filter_cons]
      by_cases e : (s.console c).area.contains n = true
      · rw [if_pos e, if_pos e, ih (u.tellConsole c f) h]
        simp [State.tellConsole, State.emit]
      · rw [if_neg e, if_neg e, ih u h]
  exact told allConsoles s rfl

theorem mem_holders {n : Nat} {c : Console} (h : n ∈ (s.console c).area) (f : ConsoleFrame) :
    Sent.console c f ∈ (allConsoles.filter fun c => (s.console c).area.contains n).map fun c => Sent.console c f := by
  refine List.mem_map.mpr ⟨c, List.mem_filter.mpr ⟨?_, by simpa using h⟩, rfl⟩
  fin_cases c <;> decide

/-- A prompt that has been reminded of once more. -/
def reminded (s : State) (p : Prompt) : Prompt :=
  { p with reminders := remindedCount p, reminderTimer := .running s.policy.reminderTicks }

/-- The state in which a prompt has been reminded of and its holders told. -/
def afterReminder (s : State) (n : Nat) (p : Prompt) : State :=
  (s.updatePrompt n fun q =>
    { q with reminders := remindedCount p, reminderTimer := .running s.policy.reminderTicks }).tellHolders n
      (.remind n (remindedCount p))

theorem exec_reminder {n : Nat} {p : Prompt} (hp : s.prompt? n = some p) (hr : p.reminderTimer.isRunning = true)
    (hc : ∃ c, n ∈ (s.console c).area) : exec (.reminder n) s =
      .next (if s.policy.escalationCount ≤ remindedCount p && !p.escalated then (afterReminder s n p).escalate n
        else afterReminder s n p) := by
  have number : p.number = n := by simpa using List.find?_some hp
  obtain ⟨c, hc⟩ := hc
  have shown : s.promptPosition n = .shown := by
    unfold State.promptPosition
    rw [if_pos]
    exact List.any_eq_true.mpr ⟨c, by fin_cases c <;> decide, by simpa using hc⟩
  change execReminder n s = _
  simp only [execReminder, hp, shown, hr, decide_true, Bool.and_self, if_true]
  have policy : (afterReminder s n p).policy = s.policy := by rw [afterReminder, tellHolders_sent]; rfl
  rw [← policy]
  unfold State.remind
  rw [number]
  rfl

theorem afterReminder_prompt {n : Nat} {p : Prompt} (hp : s.prompt? n = some p) :
    (afterReminder s n p).prompt? n = some (reminded s p) := by
  rw [afterReminder, tellHolders_sent]
  exact updatePrompt_prompt _ hp fun _ => rfl

theorem afterReminder_same (n : Nat) (p : Prompt) : afterReminder s n p =
    { s with desk := (afterReminder s n p).desk, sent := (afterReminder s n p).sent } := by
  rw [afterReminder, tellHolders_sent]
  rfl

/-- The consoles that show the prompt are sent REMIND. -/
theorem afterReminder_told {n : Nat} {p : Prompt} {c : Console} (h : n ∈ (s.console c).area) :
    sentAmong (.console c (.remind n (remindedCount p))) s (afterReminder s n p) := by
  rw [afterReminder, tellHolders_sent]
  exact ⟨_, rfl, mem_holders h _⟩

theorem remindedCount_eq (p : Prompt) : remindedCount p = min 7 (p.reminders + 1) := by
  unfold remindedCount saturate
  omega

/-- A prompt escalated to ACTION on both consoles (R122). -/
def raised (p : Prompt) : Prompt :=
  { p with escalated := true, severity := .action, targets := { console0 := true, console1 := true } }

/-- An escalation changes the desk and the notices, and raises PROMPT_ESCALATED. -/
theorem escalate_cases {n : Nat} {p : Prompt} (hp : s.prompt? n = some p) :
    (∃ q, (s.escalate n).prompt? n = some q ∧ untimed q = untimed (raised p)) ∧
      s.sent <+: (s.escalate n).sent ∧
      ((s.notice .promptEscalated).raiseEnable = true →
        sentAmong (.link s.notices.link (.notice (.promptEscalated n p.kind))) s (s.escalate n)) ∧
      s.escalate n = { s with
        desk := (s.escalate n).desk, sent := (s.escalate n).sent, notices := (s.escalate n).notices } := by
  have found : (s.updatePrompt n fun p => { p with
      escalated := true, severity := .action, targets := { console0 := true, console1 := true } }).prompt? n =
        some (raised p) := updatePrompt_prompt _ hp fun _ => rfl
  let u := s.updatePrompt n raised
  let v := u.tellHolders n (.showPrompt (raised p).shown)
  have told : v = { u with sent := v.sent } := by
    simp only [v]
    rw [tellHolders_sent]
  have escalated : s.escalate n = v.settleBoth.raiseEvent .promptEscalated (.promptEscalated n p.kind) := by
    unfold State.escalate
    dsimp only
    rw [found]
    rfl
  have settled := settleBoth_settled v
  have sent : s.sent <+: v.settleBoth.sent := by
    refine List.IsPrefix.trans ?_ settled.sent
    simp only [v]
    rw [tellHolders_sent]
    exact List.prefix_append _ _
  have same : v.settleBoth = { s with desk := v.settleBoth.desk, sent := v.settleBoth.sent } := by
    rw [settled.same, told]
    rfl
  have record : record? v.settleBoth n = some (untimed (raised p)) := by
    refine (settleBoth_heard (W := fun _ => False) v).stands n _ ?_ id
    rw [told]
    exact congrArg (Option.map untimed) found
  generalize v.settleBoth = w at escalated same sent record
  have notices : w.notices = s.notices := by rw [same]
  have desk : (s.escalate n).desk = w.desk := by rw [escalated, raiseEvent_same]
  refine ⟨?_, ?_, fun h => ?_, ?_⟩
  · rw [record?, State.prompt?, ← desk] at record
    exact Option.map_eq_some_iff.mp record
  · rw [escalated]
    exact sent.trans (raiseEvent_calm (X := NoJob) (g := True) (o := True) _ _ _).sent
  · have enabled : (w.notice .promptEscalated).raiseEnable = true := by rw [State.notice, notices]; exact h
    rw [escalated, State.raiseEvent, if_pos enabled, ← notices]
    exact sentAmong_of_prefix sent List.prefix_rfl
  · rw [escalated, raiseEvent_same, same]

/-- What a reminder does. -/
theorem reminder_acts {n : Nat} {p : Prompt} (hp : s.prompt? n = some p) (hr : p.reminderTimer.isRunning = true)
    (hc : ∃ c, n ∈ (s.console c).area) :
    let count := min 7 (p.reminders + 1)
    let escalates := p.escalated = false ∧ s.policy.escalationCount ≤ count
    ∃ t q', exec (.reminder n) s = .next t ∧ t.prompt? n = some q' ∧ q'.reminders = count ∧
      (∀ c, n ∈ (s.console c).area → sentAmong (.console c (.remind n count)) s t) ∧
      (¬escalates → unchangedBut [.desk] s t ∧ q' = { p with
        reminders := count, reminderTimer := .running (64 * (2 ^ s.policy.reminder * 15)) }) ∧
      (escalates → q'.escalated = true ∧ q'.severity = .action ∧
        q'.targets = { console0 := true, console1 := true } ∧
        ((s.notice .promptEscalated).raiseEnable = true →
          sentAmong (.link s.notices.link (.notice (.promptEscalated n p.kind))) s t) ∧
        unchangedBut [.desk, .notices] s t) := by
  rw [← remindedCount_eq]
  intro count escalates
  have answer := exec_reminder hp hr hc
  have found := afterReminder_prompt hp
  have same := afterReminder_same (s := s) n p
  have told := fun c (h : n ∈ (s.console c).area) => afterReminder_told (p := p) h
  by_cases e : escalates
  · rw [if_pos (by simp [e.1]; exact e.2)] at answer
    obtain ⟨⟨q, hq, kept⟩, sent, noticed, changed⟩ := escalate_cases found
    have notices : (afterReminder s n p).notices = s.notices := by rw [same]
    refine ⟨_, q, answer, hq, (congrArg Prompt.reminders kept :), fun c h => sentAmong_before (told c h) sent,
      fun k => absurd e k, fun _ => ⟨(congrArg Prompt.escalated kept :), (congrArg Prompt.severity kept :),
        (congrArg Prompt.targets kept :), fun h => ?_, ?_⟩⟩
    · have raised := noticed (by rw [State.notice, notices]; exact h)
      rw [notices] at raised
      refine sentAmong_after ?_ raised
      rw [afterReminder, tellHolders_sent]
      exact List.prefix_append _ _
    · rw [changed, same]
      refine ⟨fun b hb => ?_, rfl, rfl⟩
      cases b <;> first
        | exact absurd (by decide) hb
        | rfl
  · rw [if_neg (by simpa [escalates, count, and_comm] using e)] at answer
    refine ⟨_, _, answer, found, rfl, told, fun _ => ⟨?_, rfl⟩, fun k => absurd k e⟩
    rw [same]
    refine ⟨fun b hb => ?_, rfl, rfl⟩
    cases b <;> first
      | exact absurd (by decide) hb
      | rfl

end Sys2Proof.WorkLists
end

section
/-!
SUPPORT. The hold evaluation of a MOUNT, case by case (R47, R56, R161).
-/

namespace Sys2Proof.WorkLists

open Machine DriveString

variable {s t : State} {n v : Nat} {j : Job} {e : Volume}

/-! ### What a hold evaluation keeps of its job -/

/-- What a job was asked to do: its record without what a hold evaluation, a run, or a prompt changes. -/
def purpose (j : Job) : Job := { request j with counted := .none }

/-- A job that has left its hold evaluation unheld. -/
structure Released (j j' : Job) : Prop where
  request : request j' = request j
  volume : j'.volume = j.volume
  mountKind : j'.mountKind = j.mountKind
  arm : j'.arm = j.arm
  state : j'.state = if j.handMount then .manual else .waiting

/-- A job that has been through its hold evaluation. -/
structure Evaluated (j j' : Job) : Prop where
  purpose : purpose j' = purpose j
  volume : j'.volume = j.volume
  arm : j'.arm = j.arm
  noRing : j'.state ≠ .held .ringFull
  noHatch : j'.state ≠ .held .hatchFull

theorem Released.evaluated {i i' : Job} (h : Released i i') (hp : WorkLists.purpose i = WorkLists.purpose j)
    (hv : i.volume = j.volume) (ha : i.arm = j.arm) : Evaluated j i' where
  purpose := (congrArg (fun k : Job => { k with counted := Counted.none }) h.request).trans hp
  volume := h.volume.trans hv
  arm := h.arm.trans ha
  noRing := by rw [h.state]; split <;> simp
  noHatch := by rw [h.state]; split <;> simp

/-! ### A desk with room for a job's prompt (R112) -/

/-- The table has a free entry, and nothing is posted into it before the job's own prompt. -/
def Roomy (s : State) (n : Nat) : Prop := s.desk.prompts.length < 32 ∧ (s.desk.owed = [] ∨ Silent s n)

theorem Roomy.updateJob (h : Roomy s n) (f : Job → Job) (hf : ∀ j, (f j).prompt = j.prompt) :
    Roomy (s.updateJob n f) n := ⟨h.1, h.2.imp_right fun k => k.updateJob f hf⟩

theorem Roomy.setJobState (h : Roomy s n) (t : JobState) : Roomy (s.setJobState n t) n :=
  h.updateJob _ fun _ => rfl

theorem Roomy.posts (h : Roomy s n) (k : PromptKind) (p : PromptParams) (hj : s.job? n = some j) :
    ∃ m i, record? (s.postForJob n k p) m = some i ∧ WorkLists.posts ⟨.job (j.ref n), k, p, false⟩ i := by
  refine postForJob_posts s k p hj ?_
  rcases h.2 with ho | hs
  · exact readied_open s _ k ⟨h.1, ho⟩
  · exact readied_room s k hj (hs j hj) h.1

/-- A prompt of this kind is open for the job. -/
def Asking (s : State) (n : Nat) (j : Job) (k : PromptKind) : Prop :=
  ∃ m p, record? s m = some p ∧ p.kind = k ∧ p.owner = .job (j.ref n)

/-- A job held with a prompt. -/
theorem heldPosting (r : HoldReason) (k : PromptKind) (p : PromptParams) (hj : s.job? n = some j) :
    (∃ q, ((s.setJobState n (.held r)).postForJob n k p).job? n =
        some { j with state := .held r, aging := .stopped, prompt := q }) ∧
      (Roomy s n → Asking ((s.setJobState n (.held r)).postForJob n k p) n j k) := by
  have listed := setJobState_listed (.held r) hj
  refine ⟨(postForJob_asked _ n k p).job_some listed, fun h => ?_⟩
  obtain ⟨m, i, hi, posted⟩ := (h.setJobState (.held r)).posts k p listed
  exact ⟨m, i, hi, posted.1, posted.2.1⟩

/-! ### Leaving the evaluation unheld -/

theorem unhold_hand (hj : s.job? n = some j) (h : j.handMount = true) : s.unhold n =
    ((s.updateJob n fun j => { j with legs := [], leg := 0 }).setJobState n .manual).postForJob n .mountByHand
      { serial := j.serial, drive := j.drive, intent := some j.intent } := by
  simp only [State.unhold, hj, h, if_true]

theorem unhold_robot (hj : s.job? n = some j) (h : j.handMount = false) : s.unhold n =
    (s.updateJob n fun j => { j with legs := s.mountLegs j, leg := 0, retryUsed := false }).setJobState n .waiting := by
  simp only [State.unhold, hj, h, Bool.false_eq_true, if_false]

theorem unhold_released (hj : s.job? n = some j) :
    (∃ j', (s.unhold n).job? n = some j' ∧ Released j j') ∧
      (j.handMount = true → Roomy s n → Asking (s.unhold n) n j .mountByHand) ∧
      (s.unhold n).accounting = s.accounting := by
  cases h : j.handMount with
  | true =>
    rw [unhold_hand hj h]
    have listed := setJobState_listed .manual (updateJob_listed (fun j => { j with legs := [], leg := 0 }) hj)
    have posted := postForJob_asked ((s.updateJob n fun j => { j with legs := [], leg := 0 }).setJobState n .manual) n
      .mountByHand { serial := j.serial, drive := j.drive, intent := some j.intent }
    obtain ⟨p, hp⟩ := posted.job_some listed
    refine ⟨⟨_, hp, rfl, rfl, rfl, rfl, by rw [h]; rfl⟩, fun _ room => ?_,
      (congrArg Still.accounting posted.still :)⟩
    obtain ⟨m, i, hi, posted⟩ := ((room.updateJob (fun j => { j with legs := [], leg := 0 }) fun _ => rfl).setJobState
      .manual).posts .mountByHand { serial := j.serial, drive := j.drive, intent := some j.intent } listed
    exact ⟨m, i, hi, posted.1, posted.2.1⟩
  | false =>
    rw [unhold_robot hj h]
    have listed := setJobState_listed .waiting (updateJob_listed
      (fun j => { j with legs := s.mountLegs j, leg := 0, retryUsed := false }) hj)
    exact ⟨⟨_, listed, rfl, rfl, rfl, rfl, by rw [h]; rfl⟩, fun k => by simp at k, rfl⟩

/-! ### The allowance check (R161) -/

/-- A mount already counted, or of a foreign reel, is not counted. -/
theorem allowanceStep_counted (hj : s.job? n = some j) (h : j.counted ≠ .none ∨ j.mountKind = .foreign) :
    s.allowanceStep n = s.unhold n := by
  have : (j.counted ≠ .none || j.mountKind = .foreign) = true := by simpa using h
  simp only [State.allowanceStep, hj, this, if_true]

theorem allowanceStep_within (hj : s.job? n = some j) (hc : j.counted = .none) (hk : j.mountKind ≠ .foreign)
    (ha : s.allowancePasses j.account = true) : s.allowanceStep n =
      ((s.countMount j.account).updateJob n fun j => { j with counted := .allowance }).unhold n := by
  simp [State.allowanceStep, hj, hc, hk, ha]

theorem allowanceStep_past (hj : s.job? n = some j) (hc : j.counted = .none) (hk : j.mountKind ≠ .foreign)
    (ha : s.allowancePasses j.account = false) : s.allowanceStep n =
      (s.setJobState n (.held .allowance)).postForJob n .approveMount
        { account := some (s.accountCode j.account), serial := if j.scratch then none else j.serial
          drive := j.drive } := by
  simp [State.allowanceStep, hj, hc, hk, ha]

/-- Whatever the allowance check finds, the job goes on, is put to the operators, or is HELD ALLOWANCE. -/
theorem allowanceStep_evaluated (hj : s.job? n = some j) : ∃ j', (s.allowanceStep n).job? n = some j' ∧
    Evaluated j j' ∧ j'.mountKind = j.mountKind ∧
      (j'.state = .manual ∨ j'.state = .waiting ∨ j'.state = .held .allowance) := by
  have released {i i' : Job} (h : Released i i') :
      i'.state = .manual ∨ i'.state = .waiting ∨ i'.state = .held .allowance := by
    rw [h.state]
    split
    · exact .inl rfl
    · exact .inr (.inl rfl)
  by_cases h : j.counted ≠ .none ∨ j.mountKind = .foreign
  · rw [allowanceStep_counted hj h]
    obtain ⟨⟨j', hj', r⟩, -⟩ := unhold_released hj
    exact ⟨j', hj', r.evaluated rfl rfl rfl, r.mountKind, released r⟩
  · simp only [not_or, not_not] at h
    obtain ⟨hc, hk⟩ := h
    cases ha : s.allowancePasses j.account with
    | true =>
      rw [allowanceStep_within hj hc hk ha]
      have listed : ((s.countMount j.account).updateJob n fun j => { j with counted := .allowance }).job? n = _ :=
        updateJob_listed (s := s.countMount j.account) _ hj
      obtain ⟨⟨j', hj', r⟩, -⟩ := unhold_released listed
      exact ⟨j', hj', r.evaluated rfl rfl rfl, r.mountKind, released r⟩
    | false =>
      rw [allowanceStep_past hj hc hk ha]
      obtain ⟨⟨p, hp⟩, -⟩ := heldPosting .allowance .approveMount
        { account := some (s.accountCode j.account), serial := if j.scratch then none else j.serial
          drive := j.drive } hj
      exact ⟨_, hp, ⟨rfl, rfl, rfl, by simp, by simp⟩, rfl, .inr (.inr rfl)⟩

/-! ### The evaluation (R47) -/

/-- The evaluation of a job whose volume is in the map. -/
theorem holdEval_eq (hj : s.job? n = some j) (hv : j.volume = some v) (he : s.volume? v = some e) :
    s.holdEval n =
      if e.location = .shelf then (s.updateJob n fun j => { j with mountKind := .manual }).allowanceStep n
      else if e.suspect = true then
        ((s.updateJob n fun j => { j with mountKind := .robot }).setJobState n (.held .suspect)).postForJob n
          .checkReel { serial := some e.serial, cell := s.homeCell v }
      else if e.location = .uncertain then
        ((s.updateJob n fun j => { j with mountKind := .robot }).setJobState n (.held .uncertain)).postForJob n
          .verifyVolume { serial := some e.serial, cell := s.homeCell v }
      else if ((s.updateJob n fun j => { j with mountKind := .robot }).comingHome n v || e.location ≠ .cell) = true then
        (s.updateJob n fun j => { j with mountKind := .robot }).setJobState n (.held .waitVolume)
      else (s.updateJob n fun j => { j with mountKind := .robot }).allowanceStep n := by
  simp only [State.holdEval, hj, hv, he, Option.bind_some, Option.map_some]

theorem holdEval_unmapped (hj : s.job? n = some j)
    (hv : (j.volume.bind fun v => (s.volume? v).map fun e => (v, e)) = none) :
    s.holdEval n = if j.scratch = true then s.allowanceStep n
      else (s.updateJob n fun j => { j with mountKind := .foreign }).allowanceStep n := by
  simp only [State.holdEval, hj, hv]

/-- An evaluation that begins by setting the mount kind. -/
theorem Evaluated.of_kind {k : MountKind} {j' : Job} (h : Evaluated { j with mountKind := k } j') : Evaluated j j' :=
  ⟨h.purpose, h.volume, h.arm, h.noRing, h.noHatch⟩

/-- Of a volume in the map the evaluation is by hand for one on the SHELF, and by robot for any other. -/
theorem holdEval_mapped (hj : s.job? n = some j) (hv : j.volume = some v) (he : s.volume? v = some e) :
    ∃ j', (s.holdEval n).job? n = some j' ∧ Evaluated j j' ∧
      j'.mountKind = (if e.location = .shelf then .manual else .robot) ∧
      (e.suspect = false → j'.state ≠ .held .suspect) ∧ j'.state ≠ .held .reelCheck := by
  have kind (k : MountKind) := updateJob_listed (fun j : Job => { j with mountKind := k }) hj
  have stepped {i : Job} (h : i.state = .manual ∨ i.state = .waiting ∨ i.state = .held .allowance) :
      (e.suspect = false → i.state ≠ .held .suspect) ∧ i.state ≠ .held .reelCheck := by
    rcases h with h | h | h <;> simp [h]
  rw [holdEval_eq hj hv he]
  split
  · obtain ⟨j', hj', ev, mk, st⟩ := allowanceStep_evaluated (kind .manual)
    exact ⟨j', hj', ev.of_kind, mk, stepped st⟩
  · split
    · next hs =>
      obtain ⟨⟨p, hp⟩, -⟩ :=
        heldPosting .suspect .checkReel { serial := some e.serial, cell := s.homeCell v } (kind .robot)
      exact ⟨_, hp, ⟨rfl, rfl, rfl, by simp, by simp⟩, rfl, fun k => by simp [hs] at k, by simp⟩
    · split
      · obtain ⟨⟨p, hp⟩, -⟩ :=
          heldPosting .uncertain .verifyVolume { serial := some e.serial, cell := s.homeCell v } (kind .robot)
        exact ⟨_, hp, ⟨rfl, rfl, rfl, by simp, by simp⟩, rfl, fun _ => by simp, by simp⟩
      · split
        · exact ⟨_, setJobState_listed _ (kind .robot), ⟨rfl, rfl, rfl, by simp, by simp⟩, rfl,
            fun _ => by simp, by simp⟩
        · obtain ⟨j', hj', ev, mk, st⟩ := allowanceStep_evaluated (kind .robot)
          exact ⟨j', hj', ev.of_kind, mk, stepped st⟩

/-- What any evaluation keeps of its job. -/
theorem holdEval_evaluated (hj : s.job? n = some j) : ∃ j', (s.holdEval n).job? n = some j' ∧ Evaluated j j' := by
  cases hv : (j.volume.bind fun v => (s.volume? v).map fun e => (v, e)) with
  | none =>
    rw [holdEval_unmapped hj hv]
    split
    · obtain ⟨j', hj', ev, -⟩ := allowanceStep_evaluated hj
      exact ⟨j', hj', ev⟩
    · obtain ⟨j', hj', ev, -⟩ := allowanceStep_evaluated
        (updateJob_listed (fun j : Job => { j with mountKind := .foreign }) hj)
      exact ⟨j', hj', ev.of_kind⟩
  | some p =>
    obtain ⟨v, hv, hp⟩ := Option.bind_eq_some_iff.mp hv
    obtain ⟨e, he, -⟩ := Option.map_eq_some_iff.mp hp
    obtain ⟨j', hj', ev, -⟩ := holdEval_mapped hj hv he
    exact ⟨j', hj', ev⟩

/-! ### The evaluation, case by case -/

theorem holdEval_suspect (hj : s.job? n = some j) (hv : j.volume = some v) (he : s.volume? v = some e)
    (hl : e.location ≠ .shelf) (hs : e.suspect = true) (room : Roomy s n) :
    (∃ j', (s.holdEval n).job? n = some j' ∧ j'.state = .held .suspect) ∧ Asking (s.holdEval n) n j .checkReel := by
  rw [holdEval_eq hj hv he, if_neg hl, if_pos hs]
  obtain ⟨⟨p, hp⟩, asks⟩ := heldPosting .suspect .checkReel { serial := some e.serial, cell := s.homeCell v }
    (updateJob_listed (fun j : Job => { j with mountKind := .robot }) hj)
  exact ⟨⟨_, hp, rfl⟩, asks (room.updateJob _ fun _ => rfl)⟩

theorem holdEval_uncertain (hj : s.job? n = some j) (hv : j.volume = some v) (he : s.volume? v = some e)
    (hs : e.suspect = false) (hl : e.location = .uncertain) (room : Roomy s n) :
    (∃ j', (s.holdEval n).job? n = some j' ∧ j'.state = .held .uncertain) ∧
      Asking (s.holdEval n) n j .verifyVolume := by
  rw [holdEval_eq hj hv he, if_neg (by simp [hl]), if_neg (by simp [hs]), if_pos hl]
  obtain ⟨⟨p, hp⟩, asks⟩ := heldPosting .uncertain .verifyVolume { serial := some e.serial, cell := s.homeCell v }
    (updateJob_listed (fun j : Job => { j with mountKind := .robot }) hj)
  exact ⟨⟨_, hp, rfl⟩, asks (room.updateJob _ fun _ => rfl)⟩

/-- Another job's entry is not changed by what is done for a job (R47, step 4). -/
theorem others_put {α : Type} (t : Table α) (i : Nat) (x : α) :
    (t.put i x).filter (fun e => e.1 ≠ i) = t.filter fun e => e.1 ≠ i := by
  induction t with
  | nil => simp [Table.put]
  | cons e rest ih =>
    obtain ⟨k, y⟩ := e
    unfold Table.put
    split
    · next h => simp [h]
    · split
      · simp
      · simp only [List.filter_cons, ih]

theorem comingHome_eq (s : State) (n v : Nat) : s.comingHome n v =
    (s.work.jobs.filter fun e => e.1 ≠ n).any fun e => decide (e.2.volume = some v) && e.2.takesHome := by
  simp only [State.comingHome, List.any_filter, Bool.and_assoc]

theorem comingHome_updateJob (f : Job → Job) (v : Nat) : (s.updateJob n f).comingHome n v = s.comingHome n v := by
  rw [comingHome_eq, comingHome_eq]
  congr 1
  simp only [State.updateJob, Table.modify]
  split
  · exact others_put _ _ _
  · rfl

theorem comingHome_addJob (j : Job) (v : Nat) : (s.addJob n j).comingHome n v = s.comingHome n v := by
  rw [comingHome_eq, comingHome_eq]
  congr 1
  exact others_put s.work.jobs n { j with sequence := s.work.nextSequence }

theorem holdEval_wait (hj : s.job? n = some j) (hv : j.volume = some v) (he : s.volume? v = some e)
    (hs : e.suspect = false) (hl : e.location ≠ .shelf) (hu : e.location ≠ .uncertain)
    (hw : s.comingHome n v = true ∨ e.location ≠ .cell) :
    ∃ j', (s.holdEval n).job? n = some j' ∧ j'.state = .held .waitVolume := by
  have waits : ((s.updateJob n fun j => { j with mountKind := .robot }).comingHome n v || e.location ≠ .cell) = true := by
    rw [comingHome_updateJob]
    simpa using hw
  rw [holdEval_eq hj hv he, if_neg hl, if_neg (by simp [hs]), if_neg hu, if_pos waits]
  exact ⟨_, setJobState_listed _ (updateJob_listed _ hj), rfl⟩

/-- A volume that nothing keeps from being mounted comes to the allowance check, by hand from the SHELF. -/
theorem holdEval_free (hj : s.job? n = some j) (hv : j.volume = some v) (he : s.volume? v = some e)
    (hf : e.location = .shelf ∨ e.suspect = false ∧ e.location = .cell ∧ s.comingHome n v = false) :
    s.holdEval n = (s.updateJob n fun j =>
      { j with mountKind := if e.location = .shelf then .manual else .robot }).allowanceStep n := by
  rw [holdEval_eq hj hv he]
  rcases hf with h | ⟨hs, hl, hc⟩
  · simp only [h, if_true]
  · have home :
        ((s.updateJob n fun j => { j with mountKind := .robot }).comingHome n v || e.location ≠ .cell) = false := by
      rw [comingHome_updateJob]
      simp [hc, hl]
    rw [if_neg (by simp [hl]), if_neg (by simp [hs]), if_neg (by simp [hl]), if_neg (by rw [home]; simp)]
    simp [hl]

end Sys2Proof.WorkLists
end

section
/-!
O53: the aging of a job, the reminder of a prompt, and the limit of one (R56, R59, R121 to R123, R131).
-/

namespace Sys2Proof.WorkLists

open Machine DriveString

variable {s t u : State}

/-- What follows any event. -/
theorem finish_keeps_any (s before : State) : Keeps ⟨True, True, True⟩ s (State.finish before s) :=
  finish_keeps s before (fun k => absurd trivial k) (fun k => absurd trivial k) (.inl trivial)

/-! ### The counts of an account (R161, R162) -/

theorem updateLive_live (s : State) (a : AccountId) (f : Totals → Totals) :
    ((s.updateLive a f).accounting.accounts.get a).live = f (s.accounting.accounts.get a).live := by
  simp only [State.updateLive, State.updateAccount, Bank.update, Bank.get_set_self]

theorem saturate_max16 (k : Nat) : saturate max16 k = min 65535 k := by
  unfold saturate max16
  omega

/-! ### The closing of a prompt (R125) -/

/-- A prompt that closes leaves every console that holds it, and each of these is sent REMOVE. -/
theorem sendRemoves_sent (n : Nat) (w : RemoveReason) :
    (allConsoles.foldl (State.sendRemove n w) s).sent = s.sent ++ (allConsoles.filter fun c =>
      (s.console c).area.contains n || (s.console c).deferred.contains n).map fun c => .console c (.remove n w) := by
  have told (l : List Console) : ∀ u : State, u.desk = s.desk →
      (l.foldl (State.sendRemove n w) u).sent = u.sent ++ (l.filter fun c =>
        (s.console c).area.contains n || (s.console c).deferred.contains n).map fun c => .console c (.remove n w) := by
    induction l with
    | nil => intro u _; simp
    | cons c rest ih =>
      intro u h
      have console : u.console c = s.console c := by simp only [State.console, h]
      rw [List.foldl_cons, ih _ ((sendRemove_desk u n w c).trans h), List.filter_cons, State.sendRemove, console]
      split <;> simp [State.tellConsole, State.emit]
  exact told allConsoles s rfl

theorem closePrompt_removes {n : Nat} {c : Console} (w : RemoveReason)
    (h : n ∈ (s.console c).area ∨ n ∈ (s.console c).deferred) :
    sentAmong (.console c (.remove n w)) s (s.closePrompt n w) := by
  rw [closePrompt_eq]
  refine sentAmong_before ⟨_, sendRemoves_sent n w, List.mem_map.mpr ⟨c, List.mem_filter.mpr ⟨?_, by simpa using h⟩, rfl⟩⟩
    (u := s.closePrompt n w) ?_
  · fin_cases c <;> decide
  · let v := allConsoles.foldl (State.sendRemove n w) s
    have posted : Asked (fun _ _ => True) (delisted v n) (delisted v n).postOwed := postOwedWith_asked _ 32
    exact (delisted_asked v n).sent.trans (posted.sent.trans (settleBoth_settled _).sent)

/-! ### A prompt's limit (R123) -/

/-- The state in which a prompt has closed EXPIRED and its owner has forgotten it. -/
def expired (s : State) (n : Nat) (o : Owner) : State := (s.closePrompt n .expired).forget o n

theorem expired_asked (n : Nat) (o : Owner) : Asked (fun m _ => m = n) s (expired s n o) :=
  (closePrompt_asked s n .expired).trans (forget_asked o n)

theorem exec_limitExpiry {n : Nat} {q : Prompt} (hq : s.prompt? n = some q) (h : q.limitTimer.isRunning = true) :
    exec (.limitExpiry n) s = .next (State.finish s ((expired s n q.owner).actExpired q)) := by
  change execLimitExpiry n s = _
  simp only [execLimitExpiry, hq, h, if_true]
  rfl

/-- What the expiry of an APPROVE_MOUNT does for its job. -/
theorem actExpired_job {m : Nat} {i j : Job} {q : Prompt} (hk : q.kind = .approveMount) (ho : q.owner = .job (j.ref m))
    (hi : u.job? m = some i) (hs : i.sequence = j.sequence) :
    (u.policy.approveDefault = .approve → u.actExpired q = u.approved m i) ∧
      (u.policy.approveDefault = .deny → u.actExpired q = u.denied m) := by
  constructor
  · intro h
    simp only [State.actExpired, State.actApprove, hk, ho, h, toJob_eq _ hi hs]
  · intro h
    simp only [State.actExpired, State.actDeny, hk, ho, h, toJob_eq _ hi hs]

theorem approved_calm (m : Nat) (i : Job) : Calm AnyJob True True u (u.approved m i) :=
  ((updateAccount_calm u _ _).trans (updateJob_calm_of _ m _ trivial)).trans (unhold_calm _ m)

/-- An approved MOUNT keeps its job, counted an override of its account (R56, R162). -/
theorem approved_counts {m : Nat} {i : Job} (hi : u.job? m = some i) :
    (∃ j', (u.approved m i).job? m = some j' ∧ Released { i with counted := .override } j') ∧
      ((u.approved m i).accounting.accounts.get i.account).live.overrides =
        min 65535 ((u.accounting.accounts.get i.account).live.overrides + 1) := by
  have listed : ((u.countOverride i.account).updateJob m fun j => { j with counted := .override }).job? m = _ :=
    updateJob_listed (s := u.countOverride i.account) _ hi
  obtain ⟨left, -, accounts⟩ := unhold_released listed
  refine ⟨left, ?_⟩
  rw [State.approved, accounts, ← saturate_max16]
  exact congrArg Totals.overrides
    (updateLive_live u i.account fun t => { t with overrides := saturate max16 (t.overrides + 1) })

theorem toJob_sent {act : Nat → Job → State → State} (h : ∀ n j, u.sent <+: (act n j u).sent) (r : JobRef) :
    u.sent <+: (u.toJob r act).sent := by
  unfold State.toJob
  split
  · exact h _ _
  · exact List.prefix_rfl

/-- An expiry unsends nothing. -/
theorem actExpired_sent (q : Prompt) : u.sent <+: (u.actExpired q).sent := by
  have denied (m : Nat) : u.sent <+: (u.denied m).sent := (endJob_loose u m _).sent
  unfold State.actExpired State.actApprove State.actDeny
  split
  · split
    · split
      · exact toJob_sent (fun m i => (approved_calm m i).sent) _
      · exact List.prefix_rfl
    · split
      · exact toJob_sent (fun m _ => denied m) _
      · exact List.prefix_rfl
  · exact List.prefix_rfl

/-- Settles O53, clause by clause: a job ages, a prompt is reminded of, and a limit expires. -/
theorem agingReminderAndLimit : Obligations.AgingReminderAndLimit := by
  intro s n
  refine ⟨fun j hj hs ha => ?_, fun q hq hr hc => reminder_acts hq hr hc, fun q hq hl => ?_⟩
  · obtain ⟨j', hj', rise, idle⟩ := ageJob_stands hj hs
    have effective : (aged s j).effective = if j.effective < 3 then j.effective + 1 else j.effective := by
      simp only [aged]
      split <;> split <;> omega
    refine ⟨_, j', exec_agingExpiry hj hs ha, hj', rise.trans effective, fun h => ?_, ?_⟩
    · rw [rise, idle h]
      rfl
    · exact unchangedBut_of_still ((finish_still (s.ageJob n) s).trans rfl)
  · have closed := expired_asked (s := s) n q.owner
    have after := finish_calm_any ((expired s n q.owner).actExpired q) s
    refine ⟨_, exec_limitExpiry hq hl, fun c hc => ?_, fun hk => ?_, fun m j hk ho hj => ?_⟩
    · have removed := closePrompt_removes .expired hc
      have forgotten : Asked (fun _ _ => True) (s.closePrompt n .expired) (expired s n q.owner) := forget_asked _ _
      exact sentAmong_before removed (forgotten.sent.trans ((actExpired_sent q).trans after.sent))
    · have same : (expired s n q.owner).actExpired q = expired s n q.owner := by
        unfold State.actExpired
        split
        · contradiction
        · rfl
      rw [same]
      exact unchangedBut_of_still ((finish_still (expired s n q.owner) s).trans closed.still)
    · obtain ⟨p, hi⟩ := closed.job_some hj
      obtain ⟨approves, denies⟩ := actExpired_job hk ho hi rfl
      have policy : (expired s n q.owner).policy = s.policy := congrArg Still.policy closed.still
      rw [policy] at approves denies
      refine ⟨fun hd hc => ?_, fun hd => ?_⟩
      · rw [denies hd] at after ⊢
        have told := endJob_told hi (outcome_given (some (.mountFailed .allowance)) hc)
        exact toldOrigin_between closed.sent told after.sent
      · rw [approves hd] at after ⊢
        obtain ⟨⟨i, listed, left⟩, count⟩ := approved_counts hi
        obtain ⟨j', hj', kept⟩ := (finish_keeps_any ((expired s n q.owner).approved m _) s).job m i listed
        refine ⟨?_, ⟨j', hj', ?_⟩, ?_⟩
        · refine unchangedBut_of_bare (after.bare.trans ((approved_calm m _).bare.trans ?_))
          simp only [bare, closed.still]
        · exact (congrArg Job.counted (kept.request.trans left.request) :)
        · rw [finish_accounting]
          have accounts : (expired s n q.owner).accounting = s.accounting := congrArg Still.accounting closed.still
          rw [accounts] at count
          exact count

end Sys2Proof.WorkLists
end

section
/-!
O16 and O17: the admission of a MOUNT and its hold evaluation (R41, R45 to R47, R56, R161).
-/

namespace Sys2Proof.WorkLists

open Machine DriveString

section
variable {s : State} {l : Link} {tag : Nat} {r : MountRequest} {d : DriveId} {n : Nat}

/-! ### Admission (R45, R46) -/

/-- The state in which a MOUNT has been accepted, its job filled in and its drive reserved. -/
def admitted (s : State) (l : Link) (tag : Nat) (r : MountRequest) (d : DriveId) (n : Nat) : State :=
  ((s.respond l tag .mount (.acceptedJob n)).addJob n (s.mountJob l tag r d)).updateDrive d
    fun e => { e with state := .reserved, job := some n }

/-- The job as it is filled in. -/
def admittedJob (s : State) (l : Link) (tag : Nat) (r : MountRequest) (d : DriveId) : Job :=
  { s.mountJob l tag r d with sequence := s.work.nextSequence }

theorem judgeMount_admits (h : mountAdmits s l tag r d n) : s.judgeMount l tag r = .ok (d, n) := by
  obtain ⟨hm, hw, hd, hc, hg, hs, hj, hn, hv⟩ := h
  cases e : s.mountVolume r with
  | none => simp [State.judgeMount, judgeMount_form hm hw hd, hc, hg, hs, hj, hn, e]
  | some v => simp [State.judgeMount, judgeMount_form hm hw hd, hc, hg, hs, hj, hn, e, hv v e]

theorem exec_mount_admitted (h : mountAdmits s l tag r d n) :
    exec (.mount l tag r) s = .next (State.finish s ((admitted s l tag r d n).holdEval n)) := by
  change execMount l tag r s = _
  rw [execMount, judgeMount_admits h]
  rfl

theorem admitted_job : (admitted s l tag r d n).job? n = some (admittedJob s l tag r d) := addJob_job _ n _

theorem admitted_drive : (admitted s l tag r d n).drive d = { s.drive d with state := .reserved, job := some n } :=
  Bank.get_set_self _ _ _

/-- A new job has no prompt. -/
theorem admitted_silent : Silent (admitted s l tag r d n) n := silent_addJob _ n _ rfl

/-- Settles O16: the admitted job is evaluated, and neither that nor the aftermath changes its purpose. -/
theorem mountAdmitted : Obligations.MountAdmitted := by
  intro s l tag r d n h
  let u := admitted s l tag r d n
  have calm : Calm AnyJob True True u (State.finish s (u.holdEval n)) :=
    (holdEval_calm u n).trans (finish_calm_any (u.holdEval n) s)
  obtain ⟨i, hi, ev⟩ := holdEval_evaluated (s := u) (admitted_job (s := s) (l := l) (tag := tag) (r := r) (d := d))
  obtain ⟨j, hj, kept⟩ := (finish_keeps_any (u.holdEval n) s).job n i hi
  have purpose : purpose j = purpose (admittedJob s l tag r d) :=
    (congrArg (fun k : Job => { k with counted := Counted.none }) kept.request).trans ev.purpose
  have reserved : (u.drive d).state = .reserved := congrArg Drive.state admitted_drive
  have drive := calm.drive d
  refine ⟨_, j, exec_mount_admitted h, sentFirst_of_prefix calm.sent, drive.state.trans reserved, ?_, hj,
    (congrArg Job.kind purpose :), (congrArg Job.sequence purpose :), (congrArg Job.origin purpose :),
    (congrArg Job.drive purpose :), (congrArg Job.intent purpose :).trans ?_, (congrArg Job.account purpose :),
    (congrArg Job.priority purpose :), (congrArg Job.effective purpose :), (congrArg Job.cancelled purpose :),
    (congrArg Job.returning purpose :), fun v hv => ?_, unchangedBut_of_bare calm.bare⟩
  · rw [drive.job_kept (by rw [reserved]; decide) (by rw [reserved]; decide)]
    exact congrArg Drive.job admitted_drive
  · rfl
  · have volume : i.volume = some v := ev.volume.trans hv
    exact (kept.volume (by rw [volume]; simp)).1.trans volume

/-! ### Volumes that are coming home (R47, step 4) -/

theorem key_ne_of_get? {α : Type} {t : Table α} {i : Nat} (h : t.get? i = none) : ∀ e ∈ t, e.1 ≠ i := by
  induction t with
  | nil => simp
  | cons e rest ih =>
    obtain ⟨k, x⟩ := e
    unfold Table.get? at h
    split at h
    · simp at h
    · next hk =>
      intro e he
      rcases List.mem_cons.mp he with rfl | he
      · exact hk
      · exact ih h e he

/-- Of a volume that may be mounted every job that names it takes it home. -/
theorem comingHome_iff {v : Nat} (hn : s.job? n = none) (hv : s.mountable v = true) :
    s.comingHome n v = true ↔ ∃ k ∈ s.work.jobs, k.2.volume = some v := by
  unfold State.mountable at hv
  have home : ∀ k ∈ s.work.jobs, k.2.volume = some v → k.2.takesHome = true := by
    simpa [← imp_iff_not_or] using (Bool.and_eq_true_iff.mp hv).1
  have other := key_ne_of_get? hn
  simp only [State.comingHome, List.any_eq_true, Bool.and_eq_true, decide_eq_true_eq]
  constructor
  · rintro ⟨k, hk, ⟨-, h⟩, -⟩
    exact ⟨k, hk, h⟩
  · rintro ⟨k, hk, h⟩
    exact ⟨k, hk, ⟨other k hk, h⟩, home k hk h⟩

/-! ### Past the evaluation and the allowance check (R47, R161) -/

section
variable {j : Job} {v : Nat} {e : Volume}

/-- A mount within its account's allowance is counted, and waits for an arm or is put to the operators. -/
theorem holdEval_counted (hj : s.job? n = some j) (hv : j.volume = some v) (he : s.volume? v = some e)
    (hf : e.location = .shelf ∨ e.suspect = false ∧ e.location = .cell ∧ s.comingHome n v = false)
    (hc : j.counted = .none) (ha : s.allowancePasses j.account = true) :
    (∃ i, (s.holdEval n).job? n = some i ∧ i.counted = .allowance ∧
      i.state = if e.location = .shelf then .manual else .waiting) ∧
      (e.location = .shelf → Roomy s n → Asking (s.holdEval n) n j .mountByHand) ∧
      ((s.holdEval n).accounting.accounts.get j.account).live.mountsUsed =
        min 65535 ((s.accounting.accounts.get j.account).live.mountsUsed + 1) := by
  let kind : MountKind := if e.location = .shelf then .manual else .robot
  have listed : (s.updateJob n fun j => { j with mountKind := kind }).job? n = some { j with mountKind := kind } :=
    updateJob_listed _ hj
  have counted := updateJob_listed (s := (s.updateJob n fun j => { j with mountKind := kind }).countMount j.account)
    (fun j => { j with counted := .allowance }) listed
  have hk : kind ≠ .foreign := by simp only [kind]; split <;> simp
  rw [holdEval_free hj hv he hf, allowanceStep_within listed hc hk ha]
  obtain ⟨⟨i, hi, left⟩, asks, accounts⟩ := unhold_released counted
  refine ⟨⟨i, hi, (congrArg Job.counted left.request :), left.state.trans ?_⟩, fun hl room => asks ?_ ?_, ?_⟩
  · simp only [kind, Job.handMount]
    split <;> simp
  · simp [kind, Job.handMount, hl]
  · exact (room.updateJob (fun j => { j with mountKind := kind }) fun _ => rfl).updateJob
      (fun j => { j with counted := .allowance }) fun _ => rfl
  · rw [accounts, ← saturate_max16]
    exact congrArg Totals.mountsUsed
      (updateLive_live s j.account fun t => { t with mountsUsed := saturate max16 (t.mountsUsed + 1) })

/-- Past the allowance the job is HELD ALLOWANCE, uncounted, and the operators are asked. -/
theorem holdEval_past (hj : s.job? n = some j) (hv : j.volume = some v) (he : s.volume? v = some e)
    (hf : e.location = .shelf ∨ e.suspect = false ∧ e.location = .cell ∧ s.comingHome n v = false)
    (hc : j.counted = .none) (ha : s.allowancePasses j.account = false) (room : Roomy s n) :
    (∃ i, (s.holdEval n).job? n = some i ∧ i.counted = .none ∧ i.state = .held .allowance) ∧
      Asking (s.holdEval n) n j .approveMount ∧ (s.holdEval n).accounting = s.accounting := by
  let kind : MountKind := if e.location = .shelf then .manual else .robot
  let w := s.updateJob n fun j => { j with mountKind := kind }
  have listed : w.job? n = some { j with mountKind := kind } := updateJob_listed _ hj
  have hk : kind ≠ .foreign := by simp only [kind]; split <;> simp
  rw [holdEval_free hj hv he hf, allowanceStep_past listed hc hk ha]
  have posted := postForJob_asked (w.setJobState n (.held .allowance)) n .approveMount
    { account := some (w.accountCode j.account), serial := if j.scratch then none else j.serial, drive := j.drive }
  obtain ⟨⟨p, hp⟩, asks⟩ := heldPosting .allowance .approveMount
    { account := some (w.accountCode j.account), serial := if j.scratch then none else j.serial, drive := j.drive } listed
  exact ⟨⟨_, hp, hc, rfl⟩, asks (room.updateJob _ fun _ => rfl), (congrArg Still.accounting posted.still :)⟩

end

/-! ### The aftermath of an evaluation while no arm is idle -/

/-- While no arm is idle an evaluated job stands as it is to the end of the event, and so does its prompt. -/
theorem evaluated_stands {u before : State} {i j : Job} (hi : u.job? n = some i) (ev : Evaluated j i)
    (idle : noIdleArm u) (freed : u.freedRings before = [] ∧ u.freedHatches before = []) :
    (State.finish before u).job? n = some i ∧
      ∀ k, Asking u n j k → asks (State.finish before u) k (.job (j.ref n)) := by
  have kept : Keeps .busy u (State.finish before u) :=
    finish_keeps u before (fun _ => idle) (fun k => absurd trivial k) (.inr freed)
  have firm : Firm .busy i := ⟨fun _ => id, ev.noRing, fun h => absurd h ev.noHatch, False.elim⟩
  obtain ⟨i', hi', k⟩ := kept.job n i hi
  obtain rfl := k.same id id firm
  refine ⟨hi', ?_⟩
  rintro k ⟨m, p, hp, rfl, ho⟩
  rw [← ho]
  refine asks_of_record _ (kept.heard.stands m p hp ?_)
  rintro ⟨r, hr, shaken⟩
  obtain rfl := Owner.job.inj (ho.symm.trans hr)
  exact shaken _ hi firm

/-- Settles O17: the cases of the evaluation, each of which stands to the end of the event. -/
theorem mountHeldOrWaiting : Obligations.MountHeldOrWaiting := by
  intro s l tag r d n v e h hv he idle room
  let u := admitted s l tag r d n
  have listed : u.job? n = some (admittedJob s l tag r d) := admitted_job
  have mapped : (admittedJob s l tag r d).volume = some v := hv
  have volume : u.volume? v = some e := he
  have roomy : Roomy u n := ⟨room, .inr admitted_silent⟩
  have calm : Calm AnyJob True True u (u.holdEval n) := holdEval_calm u n
  have freed := freed_none (s := s) (t := u) rfl
  obtain ⟨i, hi, ev, kind, -⟩ := holdEval_mapped listed mapped volume
  obtain ⟨hj, asked⟩ := evaluated_stands hi ev (calm.noIdle idle) (calm.freed u s freed.1 freed.2)
  have theJob {k : Job} (hk : (u.holdEval n).job? n = some k) : k = i := Option.some.inj (hk.symm.trans hi)
  have unnamed : s.job? n = none := (freeJob_spec s n h.2.2.2.2.2.2.2.1).1
  have home : u.comingHome n v = true ↔ ∃ k ∈ s.work.jobs, k.2.volume = some v := by
    rw [← comingHome_iff unnamed (h.2.2.2.2.2.2.2.2 v hv)]
    exact Bool.eq_iff_iff.mp (comingHome_addJob (s := s.respond l tag .mount (.acceptedJob n)) _ v)
  have free (hf : e.location = .shelf ∨ e.suspect = false ∧ e.location = .cell ∧
      ∀ k ∈ s.work.jobs, k.2.volume ≠ some v) :
      e.location = .shelf ∨ e.suspect = false ∧ e.location = .cell ∧ u.comingHome n v = false := by
    refine hf.imp_right fun ⟨hs, hl, hn⟩ => ⟨hs, hl, ?_⟩
    rw [← Bool.not_eq_true, home]
    rintro ⟨k, hk, e⟩
    exact hn k hk e
  have within : u.allowancePasses (admittedJob s l tag r d).account = true ↔
      withinAllowance s (s.accountOf r.account) := by
    change (decide _ || decide _) = true ↔ _
    simp only [Bool.or_eq_true, decide_eq_true_eq]
    rfl
  refine ⟨_, i, exec_mount_admitted h, hj, kind, fun hl hs => ?_, fun hs hl => ?_, fun hs hl hu hc => ?_,
    fun hs hl hn => ?_, fun hf ha => ?_, fun hf ha => ?_⟩
  · obtain ⟨⟨k, hk, state⟩, asks⟩ := holdEval_suspect listed mapped volume hl hs roomy
    obtain rfl := theJob hk
    exact ⟨state, asked _ asks⟩
  · obtain ⟨⟨k, hk, state⟩, asks⟩ := holdEval_uncertain listed mapped volume hs hl roomy
    obtain rfl := theJob hk
    exact ⟨state, asked _ asks⟩
  · obtain ⟨k, hk, state⟩ := holdEval_wait listed mapped volume hs hl hu (.inr hc)
    exact theJob hk ▸ state
  · obtain ⟨k, hk, state⟩ := holdEval_wait listed mapped volume hs (by simp [hl]) (by simp [hl]) (.inl (home.mpr hn))
    exact theJob hk ▸ state
  · obtain ⟨⟨k, hk, counted, state⟩, asks, used⟩ :=
      holdEval_counted listed mapped volume (free hf) rfl (within.mpr ha)
    obtain rfl := theJob hk
    refine ⟨counted, ?_, fun hl => by simpa [hl] using state, fun hl =>
      ⟨by simpa [hl] using state, asked _ (asks hl roomy)⟩⟩
    rw [finish_accounting]
    exact used
  · obtain ⟨⟨k, hk, counted, state⟩, asks, same⟩ := holdEval_past listed mapped volume (free hf) rfl
      (Bool.eq_false_iff.mpr fun k => ha (within.mp k)) roomy
    obtain rfl := theJob hk
    exact ⟨counted, state, asked _ asks, (finish_accounting _ _).trans same⟩

end

end Sys2Proof.WorkLists
end

section
/-!
O21: an admitted EJECT and an admitted ENTER (R51, R52, R96, R105).
-/

namespace Sys2Proof.WorkLists

open Machine DriveString

variable {s : State} {l : Link} {tag priority n v : Nat} {e : Volume}

/-! ### A volume found by its serial (R2) -/

theorem mem_of_get? {α : Type} {t : Table α} {i : Nat} {x : α} (h : t.get? i = some x) : (i, x) ∈ t := by
  induction t with
  | nil => simp [Table.get?] at h
  | cons a rest ih =>
    obtain ⟨k, y⟩ := a
    unfold Table.get? at h
    split at h
    · next hk => simp_all
    · exact List.mem_cons_of_mem _ (ih h)

/-- Under the law of the map a serial finds the volume that bears it. -/
theorem findSerial_of (hm : mapInvariant s) (hv : s.volume? v = some e) : s.findSerial e.serial = some v := by
  have listed : (v, e) ∈ s.map.volumes := mem_of_get? hv
  cases found : s.map.volumes.find fun _ w => w.serial = e.serial with
  | none => exact absurd (List.find?_eq_none.mp found (v, e) listed) (by simp)
  | some w =>
    have other : w ∈ s.map.volumes := List.mem_of_find?_eq_some found
    have bears : w.2.serial = e.serial := by simpa using List.find?_some found
    have serials : s.map.volumes.Pairwise fun a b => a.2.serial ≠ b.2.serial := hm.2.imp fun h => h.1
    have same : w = (v, e) := by
      by_contra different
      have : Std.Symm fun a b : Nat × Volume => a.2.serial ≠ b.2.serial := ⟨fun _ _ h => h.symm⟩
      exact serials.forall other listed different bears
    rw [State.findSerial, found, same]
    rfl

/-! ### Admission (R51, R52) -/

theorem judgeMove_passes (hc : s.mode ≠ .configure) (hm : mapInvariant s) (hv : s.volume? v = some e)
    (hg : serialGood e.serial = true) (hp : priority ≤ 3) (ht : s.jobByTag l tag = none) :
    s.judgeMove l tag e.serial priority = .ok (v, e) := by
  simp [State.judgeMove, hc, hg, hp, ht, findSerial_of hm hv, hv]

/-- The state in which an EJECT or ENTER has been accepted and its job filled in. -/
def moveAdmitted (s : State) (l : Link) (tag n : Nat) (k : FrameKind) (j : Job) : State :=
  (s.respond l tag k (.acceptedJob n)).addJob n j

theorem exec_eject_admitted (hp : permits s l) (hj : s.judgeMove l tag e.serial priority = .ok (v, e))
    (hl : e.location = .cell) (hn : s.jobNaming v = none) (hf : s.freeJob = some n) :
    exec (.eject l tag e.serial priority) s = .next (State.finish s ((moveAdmitted s l tag n .eject
      (moveJob .eject l tag e.serial priority v (s.ejectLegs v))).setJobState n .waiting)) := by
  change execEject l tag e.serial priority s = _
  rw [execEject, managed, if_pos hp]
  simp [State.judgeEject, hj, hl, hn, hf, moveAdmitted]

theorem exec_enter_admitted (hp : permits s l) (hj : s.judgeMove l tag e.serial priority = .ok (v, e))
    (hh : e.home ≠ .shelf) (hl : e.location = .shelf) (hn : s.jobNaming v = none) (hf : s.freeJob = some n) :
    exec (.enter l tag e.serial priority) s = .next (State.finish s ((moveAdmitted s l tag n .enter
      (moveJob .enter l tag e.serial priority v [])).enterBay n)) := by
  change execEnter l tag e.serial priority s = _
  rw [execEnter, managed, if_pos hp]
  simp [State.judgeEnter, hj, hh, hl, hn, hf, moveAdmitted]

/-! ### An EJECT on its way -/

/-- An EJECT with its FETCH and HATCH_PUT before it. -/
def Ejecting (c : Cell) (j : Job) : Prop :=
  j.kind = .eject ∧ Going j ∧ j.leg = 0 ∧ ∃ b, j.legs = [.fetch c, .hatchPut b]

theorem ejecting_underway (c : Cell) : Underway (Ejecting c) where
  going _ h := h.2.1
  prompt _ _ h := h
  grant s j x r h _ hr := by
    obtain ⟨hk, going, hleg, b, legs⟩ := h
    have options : s.runOptions j =
        s.freeHatches.map fun b => { legs := [.fetch c, .hatchPut (some b)], hatch := some b } := by
      simp only [State.runOptions, legs, hleg, List.drop_zero, hk]
    rw [options] at hr
    obtain ⟨b, -, rfl⟩ := List.mem_map.mp hr
    exact ⟨hk, ⟨.inr rfl, going.2⟩, rfl, some b, rfl⟩

/-- An admitted EJECT waits for an arm, or has one. -/
theorem eject_waits {c : Cell} (hv : s.volume? v = some e) (hc : e.home = .cell c) :
    let j := moveJob .eject l tag e.serial priority v (s.ejectLegs v)
    let t := State.finish s ((moveAdmitted s l tag n .eject j).setJobState n .waiting)
    (∃ j', t.job? n = some j' ∧ Ejecting c j' ∧ request j' = request { j with sequence := s.work.nextSequence } ∧
      j'.volume = some v ∧ j'.serial = some e.serial) ∧
      sentFirst (response l tag .eject (.acceptedJob n)) s t ∧ unchangedBut aftermath s t := by
  intro j t
  have legs : s.ejectLegs v = [.fetch c, .hatchPut none] := by
    simp [State.ejectLegs, State.homeCell, hv, hc]
  let u := (moveAdmitted s l tag n .eject j).setJobState n .waiting
  have listed : u.job? n = some _ := setJobState_listed .waiting (addJob_job _ n j)
  obtain ⟨j', hj', kept⟩ := (finish_keeps_station u s rfl).job n _ listed
  obtain ⟨volume, serial⟩ := kept.volume (by simp [j, moveJob])
  refine ⟨⟨j', hj', kept.underway id _ (ejecting_underway c) ⟨rfl, ⟨.inl rfl, by simp [j, moveJob]⟩, rfl, none, legs⟩,
    kept.request, volume, serial⟩, sentFirst_of_prefix (finish_calm_any u s).sent, ?_⟩
  exact unchangedBut_of_still ((finish_still u s).trans rfl)

/-! ### An ENTER and its hatch bay (R52, R96) -/

/-- With no bay to be had an ENTER is HELD HATCH_FULL. -/
theorem enter_held {j : Job} (hf : s.freeHatches = []) :
    let t := State.finish s ((moveAdmitted s l tag n .enter j).enterBay n)
    ∃ j', t.job? n = some j' ∧ j'.state = .held .hatchFull := by
  let w := moveAdmitted s l tag n .enter j
  have held : w.enterBay n = w.setJobState n (.held .hatchFull) := by
    rw [State.enterBay, show w.freeHatches = [] from hf]
  rw [held]
  let u := w.setJobState n (.held .hatchFull)
  have listed : u.job? n = some _ := setJobState_listed (.held .hatchFull) (addJob_job _ n j)
  have keeps : Keeps ⟨True, False, False⟩ u (State.finish s u) :=
    finish_keeps u s (fun k => absurd trivial k) (fun _ => hf) (.inr (freed_none rfl))
  obtain ⟨j', hj', kept⟩ := keeps.job n _ listed
  exact ⟨j', hj', (congrArg Job.state (kept.firm ⟨by simp, by simp, fun _ => id, False.elim⟩) :)⟩

/-- An ENTER with a bay to be had is MANUAL with the bay reserved, and the operators are asked to place its
reel there. -/
theorem enter_placing {j : Job} {b : HatchBay} {rest : List HatchBay} (hp : j.prompt = none)
    (room : s.desk.prompts.length < 32) (hf : s.freeHatches = b :: rest) :
    let t := State.finish s ((moveAdmitted s l tag n .enter j).enterBay n)
    let r : JobRef := { number := n, sequence := s.work.nextSequence }
    (∃ j', t.job? n = some j' ∧ j'.state = .manual ∧ j'.hatchBay = some b) ∧
      t.station.hatch.get b = .reserved r ∧
      ∃ p ∈ t.desk.prompts, p.kind = .placeInHatch ∧ p.owner = .job r ∧
        p.params = { serial := j.serial, bay := some (.hatch b) } := by
  intro t r
  let w := moveAdmitted s l tag n .enter j
  let i : Job := { j with sequence := s.work.nextSequence }
  have added : w.job? n = some i := addJob_job _ n j
  let x := ((w.setHatch b (.reserved r)).updateJob n fun j => { j with hatchBay := some b }).setJobState n .manual
  let u := x.postForJob n .placeInHatch { serial := j.serial, bay := some (.hatch b) }
  have entered : w.enterBay n = u := by
    rw [State.enterBay, show w.freeHatches = b :: rest from hf]
    dsimp only
    rw [State.enterAt, added]
    rfl
  have listed : x.job? n = some { i with hatchBay := some b, state := .manual, aging := .stopped } :=
    setJobState_listed .manual (updateJob_listed (s := w.setHatch b (.reserved r)) _ added)
  have asked := postForJob_asked x n .placeInHatch { serial := j.serial, bay := some (.hatch b) }
  obtain ⟨p, hu⟩ := asked.job_some listed
  have roomy : Roomy x n := ⟨room, .inr (((silent_addJob _ n j hp).updateJob
    (fun j => { j with hatchBay := some b }) fun _ => rfl).updateJob _ fun _ => rfl)⟩
  obtain ⟨m, q, hq, posted⟩ := roomy.posts .placeInHatch { serial := j.serial, bay := some (.hatch b) } listed
  have reserved : u.station.hatch.get b = .reserved r := by
    rw [asked.station]
    exact Bank.get_set_self _ _ _
  have freed : u.freedRings s = [] ∧ u.freedHatches s = [] := by
    refine freed_none_of_bays (by rw [asked.station]; rfl) fun c hc => ?_
    rw [asked.station] at hc
    by_cases hb : b = c
    · subst hb
      rw [show x.station.hatch.get b = .reserved r from Bank.get_set_self _ _ _] at hc
      simp at hc
    · exact (Bank.get_set_ne _ _ _ _ hb).symm.trans hc
  have firm : Firm .granting { i with hatchBay := some b, state := .manual, aging := .stopped, prompt := p } :=
    ⟨by simp, by simp, by simp, False.elim⟩
  have keeps : Keeps .granting u (State.finish s u) :=
    finish_keeps u s (fun k => absurd trivial k) (fun k => absurd trivial k) (.inr freed)
  obtain ⟨j', hj', kept⟩ := keeps.job n _ hu
  have same := kept.firm firm
  simp only [t]
  rw [entered]
  refine ⟨⟨j', hj', (congrArg Job.state same :), (congrArg Job.hatchBay same :)⟩, ?_, ?_⟩
  · rcases keeps.hatch b with h | ⟨h, -⟩
    · exact h.trans reserved
    · rw [reserved] at h
      simp at h
  · refine mem_of_record _ (keeps.heard.stands m q hq ?_) posted
    rintro ⟨k, hk, shaken⟩
    obtain rfl := Owner.job.inj (posted.2.1.symm.trans hk)
    exact shaken _ hu firm

/-- What an ENTER's bay leaves of its job, and of the state. -/
theorem enterBay_leaves {j : Job} (hj : s.job? n = some j) :
    (∃ i, (s.enterBay n).job? n = some i ∧ request i = request j ∧ i.volume = j.volume ∧ i.serial = j.serial) ∧
      s.sent <+: (s.enterBay n).sent ∧ (s.enterBay n).still = s.still := by
  unfold State.enterBay
  split
  · next b _ _ =>
    unfold State.enterAt
    simp only [hj]
    have posted := postForJob_asked (((s.setHatch b (.reserved (j.ref n))).updateJob n fun j =>
      { j with hatchBay := some b }).setJobState n .manual) n .placeInHatch { serial := j.serial, bay := some (.hatch b) }
    obtain ⟨p, hp⟩ := posted.job_some (setJobState_listed .manual
      (updateJob_listed (s := s.setHatch b (.reserved (j.ref n))) (fun j => { j with hatchBay := some b }) hj))
    exact ⟨⟨_, hp, rfl, rfl, rfl⟩, posted.sent, posted.still⟩
  · exact ⟨⟨_, setJobState_listed _ hj, rfl, rfl, rfl⟩, List.prefix_rfl, rfl⟩

/-- Settles O21: the EJECT on its way, and the ENTER with and without a bay. -/
theorem movesAdmitted : Obligations.MovesAdmitted := by
  intro s l tag priority n v e hp hc hm hv hg hpr ht hn hf
  have passes := judgeMove_passes hc hm hv hg hpr ht
  refine ⟨fun c hh hl => ?_, fun hh hl room => ?_⟩
  · obtain ⟨⟨j, hj, ⟨hk, going, -, legs⟩, kept, volume, serial⟩, first, changed⟩ :=
      eject_waits (l := l) (tag := tag) (priority := priority) (n := n) hv hh
    exact ⟨_, j, exec_eject_admitted hp passes hl hn hf, first, hj, hk, going.1, (congrArg Job.sequence kept :),
      (congrArg Job.origin kept :), volume, serial, (congrArg Job.priority kept :), (congrArg Job.account kept :),
      legs, changed⟩
  · let i := moveJob .enter l tag e.serial priority v []
    let w := moveAdmitted s l tag n .enter i
    obtain ⟨⟨k, hk, same, volume, -⟩, sent, still⟩ := enterBay_leaves (s := w) (addJob_job _ n i)
    obtain ⟨j, hj, kept⟩ := (finish_keeps_any (w.enterBay n) s).job n k hk
    have kept' := kept.request.trans same
    refine ⟨_, j, exec_enter_admitted hp passes hh hl hn hf, ?_, hj, (congrArg Job.kind kept' :),
      (congrArg Job.origin kept' :), ?_, (congrArg Job.priority kept' :), ?_, fun hb => ?_, fun b rest hb => ?_⟩
    · exact sentFirst_of_prefix (List.IsPrefix.trans sent (finish_calm_any (w.enterBay n) s).sent)
    · exact (kept.volume (by rw [volume]; simp [i, moveJob])).1.trans volume
    · exact unchangedBut_of_still ((finish_still (w.enterBay n) s).trans still)
    · obtain ⟨j', hj', state⟩ := enter_held (l := l) (tag := tag) (n := n) (j := i) hb
      obtain rfl := Option.some.inj (hj.symm.trans hj')
      exact state
    · obtain ⟨⟨j', hj', state, bay⟩, reserved, p, stands, kind, owner, params⟩ :=
        enter_placing (l := l) (tag := tag) (n := n) (j := i) rfl room hb
      obtain rfl := Option.some.inj (hj.symm.trans hj')
      exact ⟨state, bay, reserved, p, stands, kind, owner, congrArg PromptParams.bay params,
        congrArg PromptParams.serial params⟩

end Sys2Proof.WorkLists
end

section
/-!
O57: what APPROVE, DENY, CANCEL, RETRY, INCELL and OUTSIDE do for the job that owns the prompt (R54 to R56,
R62, R99, R105).
-/

namespace Sys2Proof.WorkLists

open Machine DriveString

variable {s t u : State}

/-! ### Steps that promise free bays at most -/

/-- The bays stand as they are or are promised, and every job keeps what it was asked for. -/
structure Mild (s t : State) : Prop where
  ring : ∀ b, BayCalm (s.station.ring.get b) (t.station.ring.get b)
  hatch : ∀ b, BayCalm (s.station.hatch.get b) (t.station.hatch.get b)
  job : ∀ n j, s.job? n = some j → ∃ j', t.job? n = some j' ∧ request j' = request j

theorem Mild.trans (h : Mild s t) (k : Mild t u) : Mild s u where
  ring b := (h.ring b).trans (k.ring b)
  hatch b := (h.hatch b).trans (k.hatch b)
  job n j hj := by
    obtain ⟨j', hj', e⟩ := h.job n j hj
    obtain ⟨j'', hj'', e'⟩ := k.job n j' hj'
    exact ⟨j'', hj'', e'.trans e⟩

theorem Mild.refl (s : State) : Mild s s := ⟨fun _ => .refl _, fun _ => .refl _, fun _ j h => ⟨j, h, rfl⟩⟩

theorem mild_of_same (hs : t.station = s.station) (hj : t.work.jobs = s.work.jobs) : Mild s t where
  ring _ := .inl (by rw [hs])
  hatch _ := .inl (by rw [hs])
  job _ j h := ⟨j, by rwa [State.job?, hj], rfl⟩

theorem Keeps.mild {c : Scope} (h : Keeps c s t) : Mild s t where
  ring := h.ring
  hatch := h.hatch
  job n j hj := by
    obtain ⟨j', hj', k⟩ := h.job n j hj
    exact ⟨j', hj', k.request⟩

theorem mild_of_asked {W : Nat → Owner → Prop} (h : Asked W s t) : Mild s t where
  ring _ := .inl (by rw [h.station])
  hatch _ := .inl (by rw [h.station])
  job n j hj := by
    obtain ⟨p, hp⟩ := h.job_some hj
    exact ⟨_, hp, rfl⟩

theorem enterService_mild (d : DriveId) : Mild s (s.enterService d) := by
  let v := s.updateDrive d fun e =>
    { e with state := .service, loadTimer := .stopped, cleaningTimer := .stopped, job := none }
  have evaluated : Mild s v.evalDriveService := by
    rw [State.evalDriveService, setLevel_same]
    exact mild_of_same rfl rfl
  exact evaluated.trans (mild_of_asked (postService_asked v.evalDriveService d))

theorem emptyDrive_mild (d : DriveId) : Mild s (s.emptyDrive d) := by
  let v := s.updateDrive d fun e => { e with lastMountKind := none }
  have first : Mild s v := mild_of_same rfl rfl
  let due := v.updateDrive d fun e => { e with state := .cleanDue }
  have second : Mild v due := mild_of_same rfl rfl
  unfold State.emptyDrive
  dsimp only
  split
  · exact first.trans (enterService_mild d)
  · split
    · split
      · exact (first.trans second).trans (create_keeps (c := ⟨True, True, True⟩) due d .clean).mild
      · exact first.trans second
    · exact first.trans (mild_of_same rfl rfl)

/-- A drive that is told of its job's end leaves the bays and the jobs. -/
theorem driveJobEnded_mild (n : Nat) (d : DriveId) : Mild s (s.driveJobEnded n d) := by
  have cleared : Mild s (s.updateDrive d fun e => { e with job := none }) := mild_of_same rfl rfl
  unfold State.driveJobEnded
  dsimp only
  split
  · split
    · exact cleared.trans (emptyDrive_mild d)
    · split
      · exact cleared.trans (enterService_mild d)
      · exact cleared
  · exact .refl _

section
variable {c : Console} {n m v : Nat} {w : Machine.Word} {q : Prompt} {j : Job} {e : Volume}

/-! ### A reply handed to a job (R125, R126) -/

theorem forget_desk (o : Owner) (n : Nat) : (s.forget o n).desk = s.desk := by
  unfold State.forget
  dsimp only
  split
  · split <;> rfl
  · exact updateArm_desk _ _ _
  · rfl
  · rfl
  · rfl

theorem answered_open (o : Owner) (h : deskOpen s) : deskOpen (answered s c n o) := by
  have told : deskOpen (s.replyResult c n .accepted) := (tellConsole_settled s c _).desk_open h
  have closed : deskOpen (s.answer c n) := by
    rw [State.answer]
    exact closePrompt_open n .answered told
  have same : (answered s c n o).desk = (s.answer c n).desk := forget_desk o n
  exact ⟨by rw [same]; exact closed.1, by rw [same]; exact closed.2⟩

/-- A reply that is taken acts in a state where its prompt is closed and forgotten. -/
theorem reply_taken (act : Prompt → State → State) (ht : takes s c n w q) :
    ∃ u, Asked (fun k _ => k = n) s u ∧ (deskOpen s → deskOpen u) ∧
      takeReply c n w act s = .next (State.finish s (act q u)) :=
  ⟨_, answered_asked c n q.owner, answered_open q.owner, takeReply_accepted act ht⟩

/-- A reply that is handed to the job which owns the prompt. -/
theorem reply_to_job {act : Prompt → State → State} {actJob : Nat → Job → State → State} (ht : takes s c n w q)
    (hj : s.job? m = some j) (handed : ∀ u : State, act q u = u.toJob (j.ref m) actJob) :
    ∃ u p, Asked (fun k _ => k = n) s u ∧ (deskOpen s → deskOpen u) ∧ u.job? m = some { j with prompt := p } ∧
      takeReply c n w act s = .next (State.finish s (actJob m { j with prompt := p } u)) := by
  obtain ⟨u, a, room, answer⟩ := reply_taken act ht
  obtain ⟨p, hi⟩ := a.job_some hj
  refine ⟨u, p, a, room, hi, answer.trans ?_⟩
  rw [handed, ← toJob_eq (j := j) actJob hi rfl]

theorem asked_map {W : Nat → Owner → Prop} (a : Asked W s u) : u.map = s.map := congrArg Still.map a.still

/-- A reply that ends its job tells the origin. -/
theorem reply_fails {act : Prompt → State → State} {actJob : Nat → Job → State → State} {f : Lifecycle}
    (ht : takes s c n w q) (hj : s.job? m = some j) (handed : ∀ u : State, act q u = u.toJob (j.ref m) actJob)
    (ends : ∀ u p, actJob m { j with prompt := p } u = u.endJob m (some f)) :
    ∃ t, takeReply c n w act s = .next t ∧ (j.cancelled = false → toldOrigin m j f s t) := by
  obtain ⟨u, p, a, -, hi, answer⟩ := reply_to_job ht hj handed
  refine ⟨_, answer, fun hc => ?_⟩
  rw [ends]
  have told := endJob_told hi (outcome_given (some f) hc)
  exact toldOrigin_between a.sent told (finish_calm_any _ s).sent

/-! ### APPROVE (R56, R162) -/

theorem approve_acts (ht : takes s c n .approve q) (hk : q.kind = .approveMount) (ho : q.owner = .job (j.ref m))
    (hj : s.job? m = some j) : ∃ t j', exec (.replyApprove c n) s = .next t ∧
      t.job? m = some j' ∧ j'.counted = .override ∧ j'.state ≠ .held .allowance ∧
      (t.accounting.accounts.get j.account).live.overrides =
        min 65535 ((s.accounting.accounts.get j.account).live.overrides + 1) ∧
      unchangedBut (aftermath ++ [.accounting]) s t := by
  obtain ⟨u, p, a, -, hi, answer⟩ := reply_to_job (act := State.actApprove) (actJob := State.approved) ht hj fun u => by
    simp only [State.actApprove, hk, ho]
  obtain ⟨⟨i, listed, left⟩, count⟩ := approved_counts hi
  let w := u.approved m { j with prompt := p }
  have calm : Calm AnyJob True True u (State.finish s w) := (approved_calm m _).trans (finish_calm_any w s)
  obtain ⟨j', hj', kept⟩ := (finish_keeps_any w s).job m i listed
  refine ⟨_, j', answer, hj',
    (congrArg Job.counted (kept.request.trans left.request) :), fun h => ?_, ?_, ?_⟩
  · have state := left.state
    rcases kept.held _ h with h | h | h
    · rw [state] at h
      split at h <;> simp at h
    · simp at h
    · simp at h
  · rw [finish_accounting]
    have accounts : u.accounting = s.accounting := congrArg Still.accounting a.still
    rw [← accounts]
    exact count
  · refine unchangedBut_of_bare (calm.bare.trans ?_)
    simp only [bare, show u.still = s.still from a.still]

/-! ### CANCEL of a FIT_RING (R99) -/

theorem fitRing_cancelled {b : RingBay} (hj : s.job? m = some j) (hb : j.ringBay = some b) :
    let t := s.ringRefused m j
    (∃ j', t.job? m = some j' ∧ j'.returning = true ∧ j'.drive = none) ∧
      (j.cancelled = false → toldOrigin m j (.mountFailed .operatorCancel) s t) := by
  intro t
  let v := (s.sendFailure m (.mountFailed .operatorCancel)).turnHomeFromRing m b
  obtain ⟨o, failed⟩ := sendFailure_job (.mountFailed .operatorCancel) hj
  have turned : v.job? m = some _ := updateJob_listed _ failed
  let w := match j.drive with
    | some d => v.driveJobEnded m d
    | none => v
  have refused : t = (w.updateJob m fun j => { j with drive := none }).setJobState m .waiting := by
    simp only [t, State.ringRefused, hb]
    rfl
  obtain ⟨mild, sent⟩ : Mild v w ∧ v.sent <+: w.sent := by
    simp only [w]
    split
    · exact ⟨driveJobEnded_mild m _, (driveJobEnded_loose v m _).sent⟩
    · exact ⟨.refl v, List.prefix_rfl⟩
  obtain ⟨i, hi, kept⟩ := mild.job m _ turned
  rw [refused]
  refine ⟨⟨_, setJobState_listed .waiting (updateJob_listed _ hi), (congrArg Job.returning kept :), rfl⟩, fun hc => ?_⟩
  exact fun og ho => sentAmong_before (sendFailure_told hj hc og ho) sent

theorem fitRing_acts {b : RingBay} (ht : takes s c n .cancel q) (hk : q.kind = .fitRing) (ho : q.owner = .job (j.ref m))
    (hj : s.job? m = some j) (hb : j.ringBay = some b) : ∃ t j', exec (.replyCancel c n) s = .next t ∧
      t.job? m = some j' ∧ j'.returning = true ∧ j'.drive = none ∧
      (j.cancelled = false → toldOrigin m j (.mountFailed .operatorCancel) s t) := by
  obtain ⟨u, p, a, -, hi, answer⟩ := reply_to_job (act := State.actCancel) (actJob := State.ringRefused) ht hj
    fun u => by simp only [State.actCancel, hk, ho]
  obtain ⟨⟨i, listed, returning, drive⟩, told⟩ := fitRing_cancelled hi hb
  let w := u.ringRefused m { j with prompt := p }
  obtain ⟨j', hj', kept⟩ := (finish_keeps_any w s).job m i listed
  refine ⟨_, j', answer, hj', (congrArg Job.returning kept.request :).trans returning,
    (congrArg Job.drive kept.request :).trans drive, fun hc => ?_⟩
  have failed := told hc
  exact toldOrigin_between a.sent failed (finish_calm_any w s).sent

/-! ### A volume found, or its check done (R54, R55) -/

/-- With the map set, what follows a reply changes the blocks of the aftermath, the map and the accounts. -/
theorem unchangedBut_mapped {W : Nat → Owner → Prop} {x y t : State} (a : Asked W s u) (hx : x = { u with map := x.map })
    (hy : bare y = bare x) (ht : t.still = y.still) : unchangedBut (aftermath ++ [.map, .accounting]) s t := by
  have mapped : unchangedBut [.map] u x := by rw [hx]; exact unchangedBut_map
  refine unchangedBut_trans (unchangedBut_mono (unchangedBut_of_still a.still) (by decide)) ?_
  refine unchangedBut_trans (unchangedBut_mono mapped (by decide)) ?_
  refine unchangedBut_mono (unchangedBut_of_bare ?_) (by decide)
  rw [← hy]
  simp only [bare, ht]

/-- The state in which a job's volume is no longer suspect. -/
theorem clearSuspect_volume (hv : j.volume = some v) (he : s.volume? v = some e) :
    (s.clearSuspect j).volume? v = some { e with suspect := false } ∧
      s.clearSuspect j = { s with map := (s.clearSuspect j).map } := by
  simp only [State.clearSuspect, hv]
  exact ⟨by rw [updateVolume_volume, he]; rfl, rfl⟩

/-- CHECK_REEL RETRY of a job held for its reel, or at its FETCH. -/
theorem checkRetried_leaves (hj : s.job? m = some j) (hv : j.volume = some v) (he : s.volume? v = some e)
    (hs : j.state = .held .suspect ∨ j.state = .held .reelCheck ∧ ∃ k, j.legs[j.leg]? = some (.fetch k)) :
    let t := s.checkRetried m j
    t.map = (s.clearSuspect j).map ∧ bare t = bare (s.clearSuspect j) ∧
      ∃ i, t.job? m = some i ∧ i.state ≠ .held .suspect ∧ i.state ≠ .held .reelCheck := by
  intro t
  obtain ⟨cleared, same⟩ := clearSuspect_volume hv he
  have listed : (s.clearSuspect j).job? m = some j := by rw [same]; exact hj
  rcases hs with hs | ⟨hs, k, hk⟩
  · have evaluated : t = (s.clearSuspect j).holdEval m := by simp only [t, State.checkRetried, hs]
    have calm : Calm AnyJob True True (s.clearSuspect j) t := by rw [evaluated]; exact holdEval_calm _ m
    obtain ⟨i, hi, -, -, suspect, check⟩ := holdEval_mapped listed hv cleared
    rw [← evaluated] at hi
    exact ⟨calm.map, calm.bare, i, hi, suspect rfl, check⟩
  · have fetch : j.toFetch = true := by simp [Job.toFetch, Job.currentLeg, hk]
    have waits : t = ((s.clearSuspect j).updateJob m fun j => { j with retryUsed := false }).setJobState m .waiting := by
      simp only [t, State.checkRetried, hs, fetch, if_true]
    rw [waits]
    exact ⟨rfl, rfl, _, setJobState_listed .waiting (updateJob_listed _ listed), by simp, by simp⟩

theorem checkReel_retried (ht : takes s c n .retry q) (ho : q.owner = .job (j.ref m)) (hj : s.job? m = some j)
    (hv : j.volume = some v) (he : s.volume? v = some e)
    (hs : j.state = .held .suspect ∨ j.state = .held .reelCheck ∧ ∃ k, j.legs[j.leg]? = some (.fetch k)) :
    ∃ t j', exec (.replyRetry c n) s = .next t ∧ t.volume? v = some { e with suspect := false } ∧
      t.job? m = some j' ∧ j'.state ≠ .held .suspect ∧ j'.state ≠ .held .reelCheck ∧
      unchangedBut (aftermath ++ [.map, .accounting]) s t := by
  obtain ⟨u, p, a, -, hi, answer⟩ := reply_to_job (act := State.actRetry) (actJob := State.checkRetried) ht hj
    fun u => by simp only [State.actRetry, ho]
  let w := u.checkRetried m { j with prompt := p }
  have volume : u.volume? v = some e := (volume_congr (asked_map a) v).trans he
  obtain ⟨map, same, i, listed, suspect, check⟩ := checkRetried_leaves hi hv volume hs
  obtain ⟨cleared, mapped⟩ := clearSuspect_volume (s := u) (j := { j with prompt := p }) hv volume
  have keeps := finish_keeps_any w s
  obtain ⟨j', hj', kept⟩ := keeps.job m i listed
  refine ⟨_, j', answer,
    ?_, hj', fun h => ?_, fun h => ?_, unchangedBut_mapped a mapped same (finish_still w s)⟩
  · rw [volume_congr (keeps.map.trans map), cleared]
  · rcases kept.held _ h with h | h | h
    · exact suspect h
    · simp at h
    · simp at h
  · rcases kept.held _ h with h | h | h
    · exact check h
    · simp at h
    · simp at h

/-- VERIFY_VOLUME INCELL of a job whose volume has a cell. -/
theorem foundInCell_leaves {k : Cell} (hv : j.volume = some v) (he : s.volume? v = some e) (hk : e.home = .cell k) :
    let x := s.updateVolume v fun e => { e with location := .cell }
    (s.foundInCell m j).map = x.map ∧ bare (s.foundInCell m j) = bare x := by
  intro x
  have home : s.homeCell v = some k := by simp [State.homeCell, he, hk]
  have found : s.foundInCell m j = if j.kind = .mount then x.holdEval m
      else (x.updateJob m fun j => { j with retryUsed := false }).setJobState m .waiting := by
    simp only [State.foundInCell, hv, home, Option.isSome_some, if_true, moveVolume_free he (l := .cell) rfl]
    rfl
  rw [found]
  split
  · have calm : Calm AnyJob True True x (x.holdEval m) := holdEval_calm x m
    exact ⟨calm.map, calm.bare⟩
  · exact ⟨rfl, rfl⟩

theorem verifyVolume_inCell {k : Cell} (ht : takes s c n .inCell q) (ho : q.owner = .job (j.ref m))
    (hj : s.job? m = some j) (hv : j.volume = some v) (he : s.volume? v = some e) (hk : e.home = .cell k) :
    ∃ t, exec (.replyInCell c n) s = .next t ∧ t.volume? v = some { e with location := .cell } ∧
      (∀ u, u ≠ v → t.volume? u = s.volume? u) ∧ unchangedBut (aftermath ++ [.map, .accounting]) s t := by
  obtain ⟨u, p, a, -, hi, answer⟩ := reply_to_job (act := State.actInCell) (actJob := State.foundInCell) ht hj
    fun u => by simp only [State.actInCell, ho]
  let w := u.foundInCell m { j with prompt := p }
  have map : u.map = s.map := asked_map a
  have volume : u.volume? v = some e := (volume_congr map v).trans he
  obtain ⟨moved, same⟩ := foundInCell_leaves (m := m) (j := { j with prompt := p }) hv volume hk
  have stands := (finish_keeps_any w s).map.trans moved
  refine ⟨_, answer,
    ?_, fun i hne => ?_, unchangedBut_mapped a rfl same (finish_still w s)⟩
  · rw [volume_congr stands, updateVolume_volume, volume]
    rfl
  · rw [volume_congr stands, updateVolume_volume_ne u v i _ hne.symm, volume_congr map]

/-- VERIFY_VOLUME OUTSIDE leaves the volume on the SHELF, and ends an EJECT. -/
theorem foundOutside_leaves (hj : s.job? m = some j) (hv : j.volume = some v) (he : s.volume? v = some e) :
    (s.foundOutside m j).map = (s.moveVolume v .shelf).map ∧ s.sent <+: (s.foundOutside m j).sent ∧
      (j.kind = .eject → j.scratch = false → j.cancelled = false →
        toldOrigin m j (.moveFailed .notInLibrary) s (s.foundOutside m j)) := by
  let x := s.moveVolume v .shelf
  obtain ⟨-, -, same⟩ := shelved he
  have listed : x.job? m = some j := by simp only [x]; rw [same]; exact hj
  have sent : x.sent = s.sent := by simp only [x]; rw [same]
  have found : s.foundOutside m j = if j.chooses = true then x.dropVolume m
      else if j.kind = .mount then x.holdEval m else x.endJob m (some (.moveFailed .notInLibrary)) := by
    simp only [State.foundOutside, hv]
    rfl
  rw [found, ← sent]
  split
  · next choice =>
    refine ⟨(congrArg Still.map (dropVolume_loose x m).quiet :), (dropVolume_loose x m).sent, fun hk hs => ?_⟩
    simp [Job.chooses, hk, hs] at choice
  · split
    · next mount =>
      have calm : Calm AnyJob True True x (x.holdEval m) := holdEval_calm x m
      exact ⟨calm.map, calm.sent, fun hk => by rw [hk] at mount; simp at mount⟩
    · refine ⟨(congrArg Still.map (endJob_loose x m _).quiet :), (endJob_loose x m _).sent, fun _ _ hc og ho => ?_⟩
      have told := endJob_told listed (outcome_given (some (.moveFailed .notInLibrary)) hc) og ho
      simpa only [sentAmong, sent] using told

theorem verifyVolume_outside (ht : takes s c n .outside q) (ho : q.owner = .job (j.ref m)) (hj : s.job? m = some j)
    (hv : j.volume = some v) (he : s.volume? v = some e) :
    ∃ t, exec (.replyOutside c n) s = .next t ∧ t.volume? v = some { e with location := .shelf } ∧
      (∀ u, u ≠ v → t.volume? u = s.volume? u) ∧
      (j.kind = .eject → j.scratch = false → j.cancelled = false →
        toldOrigin m j (.moveFailed .notInLibrary) s t) := by
  obtain ⟨u, p, a, -, hi, answer⟩ := reply_to_job (act := State.actOutside) (actJob := State.foundOutside) ht hj
    fun u => by simp only [State.actOutside, ho]
  let w := u.foundOutside m { j with prompt := p }
  have map : u.map = s.map := asked_map a
  have volume : u.volume? v = some e := (volume_congr map v).trans he
  obtain ⟨moved, -, told⟩ := foundOutside_leaves hi hv volume
  obtain ⟨onShelf, others, -⟩ := shelved volume
  have stands := (finish_keeps_any w s).map.trans moved
  refine ⟨_, answer,
    ?_, fun i hne => ?_, fun hk hs hc => ?_⟩
  · rw [volume_congr stands, onShelf]
  · rw [volume_congr stands, others i hne, volume_congr map]
  · have ended := told hk hs hc
    exact toldOrigin_between a.sent ended (finish_calm_any w s).sent

end

/-- Settles O57, reply by reply. -/
theorem jobRepliesAct : Obligations.JobRepliesAct := by
  intro s c n m q j ho hj fails
  have fails_of {w : Machine.Word} {act : Prompt → State → State} (actJob : Nat → Job → State → State) {f : Lifecycle}
      (ht : takes s c n w q) := reply_fails (act := act) (actJob := actJob) (f := f) ht hj
  refine ⟨fun ht hk => approve_acts ht hk ho hj, fun ht hk => ?deny, fun ht =>
    ⟨fun hk => ?byHand, fun hk => ?placing, fun hk hs => ?suspect, fun hk hm hs => ?mount, fun hk hm hs => ?eject,
      fun b hk hb => ?fitRing⟩, fun v e hv he => ⟨fun ht hk hs => checkReel_retried ht ho hj hv he hs,
      fun ht hk k hh => verifyVolume_inCell ht ho hj hv he hh, fun ht hk => verifyVolume_outside ht ho hj hv he⟩⟩
  case deny =>
    exact fails_of (fun n _ s => s.denied n) ht (fun u => by simp only [State.actDeny, hk, ho]) fun u p => rfl
  case byHand =>
    exact fails_of (fun n _ s => s.endJob n (some (.mountFailed .operatorCancel))) ht
      (fun u => by simp only [State.actCancel, hk, ho]) fun u p => rfl
  case placing =>
    exact fails_of (fun n _ s => s.endJob n (some (.moveFailed .operatorCancel))) ht
      (fun u => by simp only [State.actCancel, hk, ho]) fun u p => rfl
  case suspect =>
    exact fails_of State.checkCancelled ht (fun u => by simp only [State.actCancel, hk, ho])
      fun u p => by simp only [State.checkCancelled, hs]
  case mount =>
    exact fails_of State.verifyCancelled ht (fun u => by simp only [State.actCancel, hk, ho])
      fun u p => by simp [State.verifyCancelled, Job.chooses, Job.failure, hm, hs]
  case eject =>
    exact fails_of State.verifyCancelled ht (fun u => by simp only [State.actCancel, hk, ho])
      fun u p => by simp [State.verifyCancelled, Job.chooses, Job.failure, hm, hs]
  case fitRing => exact fitRing_acts ht hk ho hj hb

end Sys2Proof.WorkLists
end

section
/-!
O58: what the replies do for a reel that stands in a ring or hatch bay (R54, R97, R101, R102, R104).
-/

namespace Sys2Proof.WorkLists

open Machine DriveString

variable {s t u : State}

/-! ### Bays made free -/

/-- A bay that has been made FREE, and may have been promised again. -/
def Freed (b : BayState) : Prop := b = .free ∨ ∃ r, b = .reserved r

theorem Freed.of_calm {b b' : BayState} (h : Freed b) (k : BayCalm b b') : Freed b' := by
  rcases k with rfl | ⟨-, hr⟩
  · exact h
  · exact .inr hr

theorem Freed.freeReservation {b : BayState} (h : Freed b) (r : JobRef) : Freed (freeReservation r b) := by
  unfold Machine.freeReservation
  split
  · exact .inl rfl
  · exact h

theorem giveBackBays_freed {b : RingBay} (n : Nat) (h : Freed (s.station.ring.get b)) :
    Freed ((s.giveBackBays n).station.ring.get b) := by
  unfold State.giveBackBays
  split
  · exact h
  · change Freed ((s.station.ring.map _).get b)
    rw [Bank.get_map]
    exact h.freeReservation _

/-- The end of a job without an arm leaves a ring bay that has been made free. -/
theorem endJob_freed {n : Nat} {j : Job} {b : RingBay} (frame : Option Lifecycle) (hj : s.job? n = some j)
    (ha : j.arm = none) (h : Freed (s.station.ring.get b)) : Freed ((s.endJob n frame).station.ring.get b) := by
  let told := outcomeSent s n j frame
  have first : Freed (told.station.ring.get b) := by
    simp only [told]
    rw [outcomeSent_same]
    exact h
  have second : Freed ((unburdened told n).station.ring.get b) := by
    refine giveBackBays_freed n ?_
    rw [(withdrawJobPrompt_asked told n fun _ => true).station]
    exact first
  have third : Freed ((driveTold (unburdened told n) n j).station.ring.get b) := by
    unfold driveTold
    split
    · exact second.of_calm ((driveJobEnded_mild n _).ring b)
    · exact second
  have fourth : Freed ((leaving s n j frame).station.ring.get b) := by
    rw [leaving, countReturned_same]
    exact third
  rw [endJob_noArm frame hj ha]
  exact Freed.of_calm fourth ((endRaised_calm (struckOff (leaving s n j frame) n) (leaving s n j frame) j frame).ring b)

section
variable {c : Console} {n m v : Nat} {q : Prompt} {j : Job} {e : Volume}

/-! ### Reels the library does not know (R101, R104) -/

theorem library_retried {b : RingBay} (ht : takes s c n .retry q) (ho : q.owner = .library b)
    (hb : s.station.ring.get b = .unknown) : ∃ t, exec (.replyRetry c n) s = .next t ∧
      Freed (t.station.ring.get b) ∧ unchangedBut aftermath s t := by
  obtain ⟨u, a, -, answer⟩ := reply_taken State.actRetry ht
  have unknown : u.station.ring.get b = .unknown := by rw [a.station]; exact hb
  have acts : u.actRetry q = u.setRing b .free := by simp only [State.actRetry, ho, unknown, if_true]
  have free : (u.setRing b .free).station.ring.get b = .free := Bank.get_set_self _ _ _
  rw [acts] at answer
  exact ⟨_, answer, Freed.of_calm (.inl free) ((finish_calm_any (u.setRing b .free) s).ring b),
    unchangedBut_of_still ((finish_still (u.setRing b .free) s).trans a.still)⟩

theorem library_cancelled {b : RingBay} (ht : takes s c n .cancel q) (hk : q.kind = .checkReel)
    (ho : q.owner = .library b) (hb : s.station.ring.get b = .unknown) :
    ∃ t, exec (.replyCancel c n) s = .next t ∧ t.station.ring.get b = .unknown ∧ unchangedBut aftermath s t := by
  obtain ⟨u, a, -, answer⟩ := reply_taken State.actCancel ht
  have unknown : u.station.ring.get b = .unknown := by rw [a.station]; exact hb
  have acts : u.actCancel q = u := by simp only [State.actCancel, hk, ho]
  rw [acts] at answer
  refine ⟨_, answer, ?_, unchangedBut_of_still ((finish_still u s).trans a.still)⟩
  rcases (finish_calm_any u s).ring b with h | ⟨h, -⟩
  · exact h.trans unknown
  · rw [unknown] at h
    simp at h

theorem unknownHatch_emptied {b : HatchBay} (ht : takes s c n .done q) (hk : q.kind = .takeFromHatch)
    (ho : q.owner = .hatch b) (hb : s.station.hatch.get b = .unknown) :
    ∃ t, exec (.replyDone c n) s = .next t ∧ Freed (t.station.hatch.get b) ∧ unchangedBut aftermath s t := by
  obtain ⟨u, a, -, answer⟩ := reply_taken State.actDone ht
  have unknown : u.station.hatch.get b = .unknown := by rw [a.station]; exact hb
  have acts : u.actDone q = u.setHatch b .free := by
    simp only [State.actDone, hk, ho, State.takenFromHatch, unknown, BayState.volume?]
  have free : (u.setHatch b .free).station.hatch.get b = .free := Bank.get_set_self _ _ _
  rw [acts] at answer
  exact ⟨_, answer, Freed.of_calm (.inl free) ((finish_calm_any (u.setHatch b .free) s).hatch b),
    unchangedBut_of_still ((finish_still (u.setHatch b .free) s).trans a.still)⟩

/-! ### RETRY of a take (R54) -/

/-- The order takes a reel from a bay of the stations. -/
def BayTake (o : Order) : Prop := (∃ b, o = .ringTake b) ∨ ∃ b, o = .hatchTake b

/-- A job on its way whose next order takes its reel from a bay, its retry unused. -/
def Taking (o : Order) (j : Job) : Prop := Going j ∧ j.retryUsed = false ∧ j.currentOrder = some o

/-- The leg that is such an order. -/
theorem leg_of_bayTake {g : Leg} {o : Order} (ho : BayTake o) (hg : g.order = some o) :
    (∃ b, g = .ringTake b) ∨ ∃ b, g = .hatchTake b := by
  rcases ho with ⟨b, rfl⟩ | ⟨b, rfl⟩
  · cases g with
    | ringTake b => exact .inl ⟨b, rfl⟩
    | hatchPut b => cases b <;> simp [Leg.order] at hg
    | _ => simp [Leg.order] at hg
  · cases g with
    | hatchTake b => exact .inr ⟨b, rfl⟩
    | hatchPut b => cases b <;> simp [Leg.order] at hg
    | _ => simp [Leg.order] at hg

/-- A run that begins with a take from a bay begins with it however it is formed. -/
theorem runOptions_take {g : Leg} {rest : List Leg} {r : RunOption} (hd : j.legs.drop j.leg = g :: rest)
    (hg : (∃ b, g = .ringTake b) ∨ ∃ b, g = .hatchTake b) (hr : r ∈ s.runOptions j) : r.legs.head? = some g := by
  rcases hg with ⟨b, rfl⟩ | ⟨b, rfl⟩ <;>
  · simp only [State.runOptions, hd] at hr
    split at hr
    · obtain ⟨b', -, rfl⟩ := List.mem_map.mp hr
      simp
    · obtain rfl := List.mem_singleton.mp hr
      rfl

theorem taking_underway {o : Order} (ho : BayTake o) : Underway (Taking o) where
  going _ h := h.1
  prompt _ _ h := h
  grant s j x r h _ hr := by
    obtain ⟨going, retry, current⟩ := h
    obtain ⟨g, hg, order⟩ := Option.bind_eq_some_iff.mp current
    have leg : j.legs[j.leg]? = some g := hg
    obtain ⟨rest, hd⟩ : ∃ rest, j.legs.drop j.leg = g :: rest := by
      obtain ⟨hlt, hget⟩ := List.getElem?_eq_some_iff.mp leg
      exact ⟨_, by rw [List.drop_eq_getElem_cons hlt, hget]⟩
    have head := runOptions_take hd (leg_of_bayTake ho order) hr
    refine ⟨⟨.inr rfl, going.2⟩, retry, ?_⟩
    change (r.legs[0]?).bind Leg.order = some o
    rw [← List.head?_eq_getElem?, head]
    exact order

/-- CHECK_REEL RETRY of a job that is not at its FETCH. -/
theorem checkRetried_waits (hs : j.state = .held .reelCheck) (hf : j.toFetch = false) : s.checkRetried m j =
    (s.updateJob m fun j => { j with retryUsed := false }).setJobState m .waiting := by
  simp only [State.checkRetried, hs, hf, Bool.false_eq_true, if_false]

theorem take_retried {o : Order} (ht : takes s c n .retry q) (ho : q.owner = .job (j.ref m)) (hj : s.job? m = some j)
    (hs : j.state = .held .reelCheck) (hv : j.volume = some v) (hc : j.currentOrder = some o) (hb : BayTake o) :
    ∃ t j', exec (.replyRetry c n) s = .next t ∧ t.job? m = some j' ∧
      (j'.state = .waiting ∨ j'.state = .assigned) ∧ j'.retryUsed = false ∧ j'.currentOrder = some o ∧
      unchangedBut aftermath s t := by
  obtain ⟨u, p, a, -, hi, answer⟩ := reply_to_job (act := State.actRetry) (actJob := State.checkRetried) ht hj
    fun u => by simp only [State.actRetry, ho]
  have fetch : j.toFetch = false := by
    obtain ⟨g, hg, order⟩ := Option.bind_eq_some_iff.mp hc
    rcases leg_of_bayTake hb order with ⟨b, rfl⟩ | ⟨b, rfl⟩ <;> simp only [Job.toFetch, hg]
  let w := (u.updateJob m fun j => { j with retryUsed := false }).setJobState m .waiting
  have waits : u.checkRetried m { j with prompt := p } = w := checkRetried_waits hs fetch
  have listed : w.job? m = some _ := setJobState_listed .waiting (updateJob_listed _ hi)
  rw [waits] at answer
  obtain ⟨j', hj', kept⟩ := (finish_keeps_station w s a.station).job m _ listed
  obtain ⟨going, retry, order⟩ := kept.underway id _ (taking_underway hb) ⟨⟨.inl rfl, by simp [hv]⟩, rfl, hc⟩
  exact ⟨_, j', answer, hj', going.1, retry, order, unchangedBut_of_still ((finish_still w s).trans a.still)⟩

/-! ### CANCEL at a RING_TAKE (R102) -/

/-- The state in which the reel of a ring bay has been taken out and the bay has no job. -/
def ringEmptied (s : State) (m v : Nat) (b : RingBay) : State :=
  ((s.moveVolume v .shelf).setRing b .free).updateJob m fun j => { j with ringBay := none }

theorem ringEmptied_leaves {b : RingBay} (hj : s.job? m = some j) (he : s.volume? v = some e) :
    let x := ringEmptied s m v b
    x.job? m = some { j with ringBay := none } ∧ x.map = (s.moveVolume v .shelf).map ∧
      x = { s with map := x.map, work := x.work, station := x.station } ∧ x.station.ring.get b = .free := by
  intro x
  obtain ⟨-, -, same⟩ := shelved he
  have listed : ((s.moveVolume v .shelf).setRing b .free).job? m = some j := by rw [same]; exact hj
  refine ⟨updateJob_listed _ listed, rfl, ?_, Bank.get_set_self _ _ _⟩
  simp only [x, ringEmptied]
  rw [same]
  rfl

/-- A job whose reel is given up at the ring ends, but for a MOUNT that goes on. -/
theorem giveUpRing_cases {b : RingBay} {r : Option JobRef} (hb : s.station.ring.get b = .holding v r) :
    let x := ringEmptied s m v b
    (∃ frame, s.giveUpRing m j b = x.endJob m frame ∧ (j.kind = .demount → frame = some .demountComplete) ∧
      ¬(j.kind = .mount ∧ j.cancelled = false ∧ j.returning = false)) ∨
    j.kind = .mount ∧ j.cancelled = false ∧ s.giveUpRing m j b = x.holdEval m := by
  intro x
  have given : s.giveUpRing m j b =
      if (j.cancelled || j.returning) = true then x.endJob m (if j.kind = .demount then some .demountComplete else none)
      else match j.kind with
        | .mount => x.holdEval m
        | .demount => x.endJob m (some .demountComplete)
        | .clean | .eject | .enter => x.endJob m none := by
    simp only [State.giveUpRing, hb, BayState.volume?]
    rfl
  rw [given]
  by_cases h : (j.cancelled || j.returning) = true
  · rw [if_pos h]
    refine .inl ⟨_, rfl, fun hk => if_pos hk, ?_⟩
    rintro ⟨-, hc, hr⟩
    simp [hc, hr] at h
  · have going : j.cancelled = false := by
      simp only [Bool.or_eq_true, not_or, Bool.not_eq_true] at h
      exact h.1
    rw [if_neg h]
    cases hk : j.kind with
    | mount => exact .inr ⟨rfl, going, rfl⟩
    | demount => exact .inl ⟨_, rfl, fun _ => rfl, by simp⟩
    | clean => exact .inl ⟨_, rfl, by simp, by simp⟩
    | eject => exact .inl ⟨_, rfl, by simp, by simp⟩
    | enter => exact .inl ⟨_, rfl, by simp, by simp⟩

/-- A counted mount of a volume on the SHELF goes on as a mount by hand (R47, R161). -/
theorem holdEval_byHand (hj : s.job? m = some j) (hv : j.volume = some v) (he : s.volume? v = some e)
    (hl : e.location = .shelf) (hc : j.counted ≠ .none) :
    (∃ i, (s.holdEval m).job? m = some i ∧ i.state = .manual ∧ i.mountKind = .manual ∧ i.arm = j.arm ∧
      i.kind = j.kind) ∧ (Roomy s m → Asking (s.holdEval m) m j .mountByHand) := by
  have listed := updateJob_listed (fun j : Job => { j with mountKind := .manual }) hj
  rw [holdEval_eq hj hv he, if_pos hl, allowanceStep_counted listed (.inl hc)]
  obtain ⟨⟨i, hi, left⟩, asks, -⟩ := unhold_released listed
  refine ⟨⟨i, hi, left.state.trans (if_pos (handMount_true (.inl rfl))), left.mountKind, left.arm,
    (congrArg Job.kind left.request :)⟩, fun room => asks (handMount_true (.inl rfl)) ?_⟩
  exact room.updateJob (fun j : Job => { j with mountKind := .manual }) fun _ => rfl

/-- A mount by hand without an arm stands with its prompt through all that follows an event. -/
theorem byHand_stands {before : State} {i : Job} (hi : u.job? m = some i) (hs : i.state = .manual) (ha : i.arm = none)
    (hk : i.kind = .mount) : (∃ j', (State.finish before u).job? m = some j' ∧ j'.state = .manual ∧
      j'.mountKind = i.mountKind) ∧
      ∀ j : Job, ∀ k, Asking u m j k → asks (State.finish before u) k (.job (j.ref m)) := by
  have firm : Firm ⟨True, True, True⟩ i :=
    ⟨fun h => by simp [hs] at h, by simp [hs], fun h => by simp [hs] at h, fun _ => ⟨ha, by simp [hk]⟩⟩
  have keeps := finish_keeps_any u before
  obtain ⟨j', hj', kept⟩ := keeps.job m i hi
  have same := kept.firm firm
  refine ⟨⟨j', hj', (congrArg Job.state same :).trans hs, (congrArg Job.mountKind same :)⟩, ?_⟩
  rintro j k ⟨l, p, hp, rfl, ho⟩
  rw [← ho]
  refine asks_of_record _ (keeps.heard.stands l p hp ?_)
  rintro ⟨r, hr, shaken⟩
  obtain rfl := Owner.job.inj (ho.symm.trans hr)
  exact shaken i hi firm

/-- What CANCEL does for a job held at a RING_TAKE. -/
theorem giveUpRing_acts {b : RingBay} {r : Option JobRef} (hj : s.job? m = some j) (ha : j.arm = none)
    (hv : j.volume = some v) (he : s.volume? v = some e) (hb : s.station.ring.get b = .holding v r) :
    let t := State.finish u (s.giveUpRing m j b)
    t.volume? v = some { e with location := .shelf } ∧ (∀ w, w ≠ v → t.volume? w = s.volume? w) ∧
      Freed (t.station.ring.get b) ∧ (j.kind = .demount → j.cancelled = false → toldOrigin m j .demountComplete s t) ∧
      (j.cancelled = true → toldOrigin m j .cancelled s t) ∧
      (j.kind = .mount → j.cancelled = false → j.returning = false → j.counted ≠ .none →
        ∃ j', t.job? m = some j' ∧ j'.state = .manual ∧ j'.mountKind = .manual ∧
          (deskOpen s → asks t .mountByHand (.job (j.ref m)))) := by
  intro t
  let x := ringEmptied s m v b
  obtain ⟨listed, map, same, free⟩ := ringEmptied_leaves (b := b) hj he
  obtain ⟨onShelf, others, -⟩ := shelved he
  have keeps := finish_keeps_any (s.giveUpRing m j b) u
  have placed (h : (s.giveUpRing m j b).map = x.map) : t.volume? v = some { e with location := .shelf } ∧
      ∀ w, w ≠ v → t.volume? w = s.volume? w := by
    have stands : t.map = (s.moveVolume v .shelf).map := (keeps.map.trans h).trans map
    exact ⟨(volume_congr stands v).trans onShelf, fun w hw => (volume_congr stands w).trans (others w hw)⟩
  have sent : x.sent = s.sent := by simp only [x]; rw [same]
  have desk : x.desk = s.desk := by simp only [x]; rw [same]
  rcases giveUpRing_cases (m := m) (j := j) hb with ⟨frame, ends, demount, noMount⟩ | ⟨hk, hc, goes⟩
  · have told {f : Lifecycle} (h : j.outcome frame = some f) : toldOrigin m j f s t := fun og ho => by
      have ended := endJob_told (f := f) listed h og ho
      have ended : sentAmong (.link og.link (.lifecycle og.tag f m j.drive j.serial)) s (x.endJob m frame) := by
        simpa only [sentAmong, ← sent] using ended
      refine sentAmong_before ended ?_
      rw [← ends]
      exact (finish_calm_any (s.giveUpRing m j b) u).sent
    have moved := placed (by rw [ends]; exact (congrArg Still.map (endJob_loose x m frame).quiet :))
    refine ⟨moved.1, moved.2, ?_, fun hk hc => told ?_, fun hc => told (outcome_cancelled _ hc), fun hk hc hr =>
      absurd ⟨hk, hc, hr⟩ noMount⟩
    · have freed := endJob_freed frame listed ha (.inl free)
      rw [← ends] at freed
      exact freed.of_calm (keeps.ring b)
    · rw [outcome_given _ hc, demount hk]
  · have calm : Calm AnyJob True True x (s.giveUpRing m j b) := by rw [goes]; exact holdEval_calm x m
    have moved := placed calm.map
    refine ⟨moved.1, moved.2, (Freed.of_calm (.inl free) (calm.ring b)).of_calm (keeps.ring b),
      fun hd => by rw [hk] at hd; simp at hd, fun h => by rw [hc] at h; simp at h, fun _ _ _ counted => ?_⟩
    have volume : x.volume? v = some { e with location := .shelf } := (volume_congr map v).trans onShelf
    obtain ⟨⟨i, hi, state, kind, arm, mount⟩, asking⟩ := holdEval_byHand listed hv volume rfl counted
    rw [← goes] at hi asking
    obtain ⟨⟨j', hj', state', kind'⟩, asked⟩ := byHand_stands (before := u) hi state (arm.trans ha) (mount.trans hk)
    exact ⟨j', hj', state', kind'.trans kind, fun room =>
      asked j _ (asking ⟨by rw [desk]; exact room.1, .inl (by rw [desk]; exact room.2)⟩)⟩

theorem ringTake_cancelled {b : RingBay} (ht : takes s c n .cancel q) (hk : q.kind = .checkReel)
    (ho : q.owner = .job (j.ref m)) (hj : s.job? m = some j) (hs : j.state = .held .reelCheck) (ha : j.arm = none)
    (hv : j.volume = some v) (he : s.volume? v = some e) (hl : j.legs[j.leg]? = some (.ringTake b))
    (hb : s.station.ring.get b = .holding v (some (j.ref m))) :
    ∃ t, exec (.replyCancel c n) s = .next t ∧ t.volume? v = some { e with location := .shelf } ∧
      (∀ u, u ≠ v → t.volume? u = s.volume? u) ∧ Freed (t.station.ring.get b) ∧
      (j.kind = .demount → j.cancelled = false → toldOrigin m j .demountComplete s t) ∧
      (j.cancelled = true → toldOrigin m j .cancelled s t) ∧
      (j.kind = .mount → j.cancelled = false → j.returning = false → j.counted ≠ .none →
        ∃ j', t.job? m = some j' ∧ j'.state = .manual ∧ j'.mountKind = .manual ∧
          (deskOpen s → asks t .mountByHand (.job (j.ref m)))) := by
  obtain ⟨u, p, a, room, hi, answer⟩ := reply_to_job (act := State.actCancel) (actJob := State.checkCancelled) ht hj
    fun u => by simp only [State.actCancel, hk, ho]
  have gives : u.checkCancelled m { j with prompt := p } = u.giveUpRing m { j with prompt := p } b := by
    simp only [State.checkCancelled, hs, Job.currentLeg, hl]
  rw [gives] at answer
  have map := asked_map a
  obtain ⟨moved, others, freed, demount, cancelled, mount⟩ := giveUpRing_acts (u := s) hi ha hv
    ((volume_congr map v).trans he) (by rw [a.station]; exact hb)
  have before {f : Lifecycle} {t : State} (h : toldOrigin m { j with prompt := p } f u t) : toldOrigin m j f s t :=
    fun og hog => sentAmong_after a.sent (h og hog)
  refine ⟨_, answer, moved, fun i hne => (others i hne).trans (volume_congr map i), freed,
    fun hk hc => before (demount hk hc), fun hc => before (cancelled hc), fun hk hc hr hn => ?_⟩
  obtain ⟨j', hj', state, kind, asked⟩ := mount hk hc hr hn
  exact ⟨j', hj', state, kind, fun h => asked (room h)⟩

/-! ### CANCEL at a HATCH_TAKE (R102) -/

/-- What is posted is open or owed to the end of an event, where no job owns it. -/
theorem pending_stands {b : HatchBay} {k : PromptKind} {p : PromptParams} {x : Bool} {before : State}
    (h : ⟨.hatch b, k, p, x⟩ ∈ u.desk.owed ∨ ∃ l i, record? u l = some i ∧ posts ⟨.hatch b, k, p, x⟩ i) :
    asks (State.finish before u) k (.hatch b) ∨
      ∃ w ∈ (State.finish before u).desk.owed, w.kind = k ∧ w.owner = .hatch b := by
  have keeps := finish_keeps_any u before
  have unshaken : ¬Shaken ⟨True, True, True⟩ u (.hatch b) := by
    rintro ⟨r, hr, -⟩
    simp at hr
  have opens {l : Nat} {i : Prompt} (hi : record? (State.finish before u) l = some i)
      (posted : posts ⟨.hatch b, k, p, x⟩ i) : asks (State.finish before u) k (.hatch b) := by
    obtain ⟨r, hr, kind, owner, -⟩ := mem_of_record _ hi posted
    exact ⟨r, hr, kind, owner⟩
  rcases h with owed | ⟨l, i, hi, posted⟩
  · rcases keeps.heard.owed _ owed unshaken with still | ⟨l, i, hi, posted⟩
    · exact .inr ⟨_, still, rfl, rfl⟩
    · exact .inl (opens hi posted)
  · refine .inl (opens (keeps.heard.stands l i hi ?_) posted)
    rw [posted.2.1]
    exact unshaken

/-- What CANCEL does for an ENTER held at its HATCH_TAKE. -/
theorem giveUpHatch_acts {b : HatchBay} {r : Option JobRef} (hj : s.job? m = some j) (hk : j.kind = .enter)
    (hb : s.station.hatch.get b = .holding v r) :
    let t := State.finish u (s.giveUpHatch m j b)
    t.map = s.map ∧ t.station.hatch.get b = .holding v none ∧
      (asks t .takeFromHatch (.hatch b) ∨ ∃ w ∈ t.desk.owed, w.kind = .takeFromHatch ∧ w.owner = .hatch b) ∧
      (j.cancelled = false → toldOrigin m j (.moveFailed .reelCheck) s t) := by
  intro t
  let ended := s.endJob m (some (.moveFailed .reelCheck))
  let left := ended.setHatch b (.holding v none)
  let params : PromptParams :=
    { bay := some (.hatch b), serial := (some v).bind left.serialOf, label := none, cell := none }
  have given : s.giveUpHatch m j b = left.post (.hatch b) .takeFromHatch params false := by
    simp only [State.giveUpHatch, hb, BayState.volume?, Job.failure, hk]
    rfl
  have posted := post_asked left (.hatch b) .takeFromHatch params false
  have pends := post_pends left (.hatch b) .takeFromHatch params false
  rw [← given] at posted pends
  have keeps := finish_keeps_any (s.giveUpHatch m j b) u
  have holding : (s.giveUpHatch m j b).station.hatch.get b = .holding v none := by
    rw [posted.station]
    exact Bank.get_set_self _ _ _
  refine ⟨?_, ?_, pending_stands pends, fun hc => ?_⟩
  · have map : left.map = s.map := (congrArg Still.map (endJob_loose s m _).quiet :)
    exact keeps.map.trans ((asked_map posted).trans map)
  · rcases keeps.hatch b with h | ⟨h, -⟩
    · exact h.trans holding
    · rw [holding] at h
      simp at h
  · have told := endJob_told hj (outcome_given (some (.moveFailed .reelCheck)) hc)
    exact toldOrigin_between List.prefix_rfl told
      (posted.sent.trans (finish_calm_any (s.giveUpHatch m j b) u).sent)

theorem hatchTake_cancelled {b : HatchBay} (ht : takes s c n .cancel q) (hk : q.kind = .checkReel)
    (ho : q.owner = .job (j.ref m)) (hj : s.job? m = some j) (hs : j.state = .held .reelCheck)
    (hl : j.legs[j.leg]? = some (.hatchTake b)) (he : j.kind = .enter)
    (hb : s.station.hatch.get b = .holding v (some (j.ref m))) :
    ∃ t, exec (.replyCancel c n) s = .next t ∧ t.map = s.map ∧ t.station.hatch.get b = .holding v none ∧
      (asks t .takeFromHatch (.hatch b) ∨ ∃ w ∈ t.desk.owed, w.kind = .takeFromHatch ∧ w.owner = .hatch b) ∧
      (j.cancelled = false → toldOrigin m j (.moveFailed .reelCheck) s t) := by
  obtain ⟨u, p, a, -, hi, answer⟩ := reply_to_job (act := State.actCancel) (actJob := State.checkCancelled) ht hj
    fun u => by simp only [State.actCancel, hk, ho]
  have gives : u.checkCancelled m { j with prompt := p } = u.giveUpHatch m { j with prompt := p } b := by
    simp only [State.checkCancelled, hs, Job.currentLeg, hl]
  rw [gives] at answer
  obtain ⟨map, holding, pends, told⟩ := giveUpHatch_acts (u := s) hi he (by rw [a.station]; exact hb)
  exact ⟨_, answer, map.trans (asked_map a), holding, pends, fun hc og hog => sentAmong_after a.sent (told hc og hog)⟩

end

/-- Settles O58, bay by bay. -/
theorem bayRepliesAct : Obligations.BayRepliesAct := by
  intro s c n q ringFreed hatchFreed
  exact ⟨fun b hk ho hb => ⟨fun ht => library_retried ht ho hb, fun ht => library_cancelled ht hk ho hb⟩,
    fun b hk ho hb ht => unknownHatch_emptied ht hk ho hb,
    fun m j v e hk ho hj hs ha he hv => ⟨fun ht o hc hb => take_retried ht ho hj hs hv hc hb, fun ht =>
      ⟨fun b hl hb _ => ringTake_cancelled ht hk ho hj hs ha hv he hl hb,
        fun b hl hn hb => hatchTake_cancelled ht hk ho hj hs hl hn hb⟩⟩⟩

end Sys2Proof.WorkLists
end

section
/-!
O60: REFRESH shows the action area again in rank order (R115, R130).
-/

namespace Sys2Proof.OperatorPrompts

open Machine

/-! ### Rank order (R115) -/

/-- A list of prompts stands in rank order: no prompt goes before one of higher severity. -/
def Ranked (ps : List Prompt) : Prop :=
  ps.Pairwise fun p q => severityRank q.severity ≤ severityRank p.severity

theorem mem_insertRanked {p x : Prompt} {ps : List Prompt} (h : x ∈ insertRanked p ps) : x = p ∨ x ∈ ps := by
  induction ps with
  | nil => simpa [insertRanked] using h
  | cons q rest ih =>
    unfold insertRanked at h
    split at h
    · rcases List.mem_cons.mp h with rfl | h
      · exact .inr (by simp)
      · exact (ih h).imp_right (List.mem_cons_of_mem q)
    · simpa using h

theorem insertRanked_ranked {p : Prompt} {ps : List Prompt} (h : Ranked ps) : Ranked (insertRanked p ps) := by
  induction ps with
  | nil => simp [insertRanked, Ranked]
  | cons q rest ih =>
    obtain ⟨below, ranked⟩ := List.pairwise_cons.mp h
    unfold insertRanked
    split
    · next hq =>
      refine List.pairwise_cons.mpr ⟨fun x hx => ?_, ih ranked⟩
      rcases mem_insertRanked hx with rfl | hx
      · exact hq.le
      · exact below x hx
    · next hq =>
      refine List.pairwise_cons.mpr ⟨fun x hx => ?_, h⟩
      rcases List.mem_cons.mp hx with rfl | hx
      · exact Nat.le_of_not_lt hq
      · exact (below x hx).trans (Nat.le_of_not_lt hq)

/-- An insertion passes over higher severities alone, so that a prompt goes before those of its own severity. -/
theorem filter_insertRanked (g : PromptSeverity) (p : Prompt) (ps : List Prompt) :
    (insertRanked p ps).filter (fun x => x.severity = g) = (p :: ps).filter fun x => x.severity = g := by
  induction ps with
  | nil => rfl
  | cons q rest ih =>
    unfold insertRanked
    split
    · next hq =>
      have differ : q.severity = g → p.severity ≠ g := by
        rintro rfl e
        rw [e] at hq
        exact absurd hq (Nat.lt_irrefl _)
      rw [List.filter_cons, ih]
      by_cases e : q.severity = g <;> simp [e, List.filter_cons, differ]
    · rfl

theorem areaRanked_ranked (s : State) (c : Console) : Ranked (s.areaRanked c) := by
  unfold State.areaRanked
  induction s.areaPrompts c with
  | nil => exact .nil
  | cons p rest ih => exact insertRanked_ranked ih

/-- Within a severity the prompts of an area are ranked in posting order. -/
theorem filter_areaRanked (s : State) (c : Console) (g : PromptSeverity) :
    (s.areaRanked c).filter (fun p => p.severity = g) = (s.areaPrompts c).filter fun p => p.severity = g := by
  unfold State.areaRanked
  induction s.areaPrompts c with
  | nil => rfl
  | cons p rest ih => rw [List.foldr_cons, filter_insertRanked, List.filter_cons, ih, List.filter_cons]

/-! ### The frames of a REFRESH (R130) -/

/-- A console that is shown prompts one after another is sent their SHOW frames and nothing else changes. -/
theorem showEach_eq (c : Console) (ps : List Prompt) (s : State) :
    ps.foldl (fun t p => t.tellConsole c (.showPrompt p.shown)) s = afterSending (ps.map (showing c)) s := by
  induction ps generalizing s with
  | nil => simp [afterSending]
  | cons p rest ih => rw [List.foldl_cons, ih]; simp [afterSending, State.tellConsole, State.emit, showing]

theorem exec_refresh (s : State) (c : Console) : exec (.refresh c) s =
    .next (afterSending (.console c .clearAll :: (s.areaRanked c).map (showing c)) s) := by
  change Host.Outcome.next _ = _
  rw [showEach_eq]
  simp [afterSending, State.tellConsole, State.emit]

/-- Settles O60: what REFRESH shows is the area, ranked by insertion from its last prompt on. -/
theorem refreshed : Obligations.Refreshed := by
  intro s c
  exact ⟨s.areaRanked c, exec_refresh s c, areaRanked_ranked s c, filter_areaRanked s c⟩

end Sys2Proof.OperatorPrompts
end

section
/-!
O30: LOAD_ROUTING and SET_POLICY (R114, R131, R160, R184, R190, R191).
-/

namespace Sys2Proof.OperatorPrompts

open Machine DriveString

variable {s t : State}

/-! ### The two commands for one item -/

theorem exec_loadRouting {l : Link} (tag : Nat) (i : RoutingItem) (hp : permits s l) :
    exec (.loadRouting l tag [i]) s =
      .next ((routingItem 1 i s).1.respond l tag .loadRouting (itemsResult (routingItem 1 i s).2.toList)) := by
  change execLoadRouting l tag [i] s = _
  rw [execLoadRouting, managed_permitted s l tag _ _ hp, takeItems_one]

/-- The response is formed from the item as it is taken, and sent before what the item causes (R185). -/
theorem exec_setPolicy {l : Link} (tag : Nat) (i : PolicyItem) (hp : permits s l) :
    exec (.setPolicy l tag [i]) s =
      .next (policyItem 1 i (s.respond l tag .setPolicy (itemsResult (policyItem 1 i s).2.toList))).1 := by
  change execSetPolicy l tag [i] s = _
  rw [execSetPolicy, managed_permitted s l tag _ _ hp]
  simp only [takeItems_one]

/-- A refused item changes nothing but for the response. -/
theorem exec_setPolicy_refused {l : Link} (tag : Nat) {i : PolicyItem} {r : Reason} (hp : permits s l)
    (h : ∀ u : State, u.intake = s.intake → policyItem 1 i u = (u, some (.refused 1 r))) :
    exec (.setPolicy l tag [i]) s =
      .next (afterSending [response l tag .setPolicy (.tableReject [.refused 1 r])] s) := by
  rw [exec_setPolicy tag i hp, h (s.respond _ _ _ _) rfl, h s rfl]
  rfl

/-! ### What an item changes -/

theorem unchangedBut_desk {k : PromptControl} {f : List Sent} :
    unchangedBut [.desk] s { s with desk := k, sent := f } := by
  refine ⟨fun b hb => ?_, rfl, rfl⟩
  cases b <;> first
    | exact absurd (by decide) hb
    | rfl

theorem unchangedBut_policy {p : Policy} {f : List Sent} :
    unchangedBut [.policy] s { s with policy := p, sent := f } := by
  refine ⟨fun b hb => ?_, rfl, rfl⟩
  cases b <;> first
    | exact absurd (by decide) hb
    | rfl

theorem unchangedBut_permission {k : Link} {b : Bool} {f : List Sent} :
    unchangedBut [.intake] s { s.setPermission k b with sent := f } := by
  refine ⟨fun b hb => ?_, rfl, rfl⟩
  cases b <;> first
    | exact absurd (by decide) hb
    | rfl

/-! ### The high-water mark (R160) -/

theorem updateNotice_notice (c : NoticeClass) (f : NoticeState → NoticeState) :
    (s.updateNotice c f).notice c = f (s.notice c) := Bank.get_set_self _ _ _

/-- An evaluated condition class stands at the level it was given. -/
theorem setLevel_level (c : NoticeClass) (b : Bool) (d : NoticeData) : ((s.setLevel c b d).notice c).level = b := by
  unfold State.setLevel
  dsimp only
  split
  · next h => exact h
  · have set := congrArg NoticeState.level (updateNotice_notice (s := s) c fun n => { n with level := b })
    rw [apply_ite (fun u : State => (u.notice c).level), State.sendNotice, updateNotice_notice]
    exact (ite_congr rfl (fun _ => set) fun _ => set).trans (ite_self b)

theorem setLevel_sent (c : NoticeClass) (b : Bool) (d : NoticeData) : s.sent <+: (s.setLevel c b d).sent :=
  (setLevel_calm (X := NoJob) (g := True) (o := True) s c b d).sent

/-- What a new high-water mark of `m` leaves: RECORDS_HIGH judged against the record queue. -/
theorem highWater_judged (m : Nat) (f : Sent) :
    let t := { s.emit f with policy := { s.policy with highWater := m } }.evalRecordsHigh
    t.policy = { s.policy with highWater := m } ∧
      (t.notice .recordsHigh).level = decide (m * 16 ≤ s.accounting.records.length) ∧ sentFirst f s t ∧
      unchangedBut [.policy, .notices] s t := by
  intro t
  let u : State := { s.emit f with policy := { s.policy with highWater := m } }
  have level : (t.notice .recordsHigh).level = u.recordsHigh := setLevel_level _ _ _
  have sent : u.sent <+: t.sent := setLevel_sent _ _ _
  have same : t = { u with notices := t.notices, sent := t.sent } := setLevel_same u _ _ _
  refine ⟨by rw [same], level, sentFirst_of_prefix sent, ?_⟩
  rw [same]
  refine ⟨fun b hb => ?_, rfl, rfl⟩
  cases b <;> first
    | exact absurd (by decide) hb
    | rfl

/-! ### Permissions (R184, R191) -/

theorem setPermission_permitted (k m : Link) (b : Bool) : ((s.setPermission k b).intake.get m) =
    { s.intake.get m with permitted := if m = k then b else (s.intake.get m).permitted } := by
  by_cases h : m = k
  · subst h
    rw [if_pos rfl]
    exact Bank.get_set_self _ _ _
  · rw [if_neg h]
    exact Bank.get_set_ne _ _ _ _ (Ne.symm h)

/-- After a permission is set some link is permitted just when it was set, or another link was. -/
theorem anyPermitted_setPermission (k : Link) (b : Bool) :
    (s.setPermission k b).anyPermitted = true ↔ b = true ∨ ∃ m, m ≠ k ∧ permits s m := by
  have every (m : Link) : m ∈ allLinks := by fin_cases m <;> decide
  rw [State.anyPermitted, List.any_eq_true]
  constructor
  · rintro ⟨m, -, h⟩
    rw [setPermission_permitted] at h
    by_cases e : m = k
    · exact .inl (by simpa [e] using h)
    · exact .inr ⟨m, e, by simpa [e] using h⟩
  · rintro (rfl | ⟨m, e, h⟩)
    · exact ⟨k, every k, by simp [setPermission_permitted]⟩
    · exact ⟨m, every m, by simpa [setPermission_permitted, e] using h⟩

theorem policyItem_permission (p : Nat) (k : Link) (b : Bool) : policyItem p (.permission k.val (some b)) s =
    if (s.setPermission k b).anyPermitted then (s.setPermission k b, some (.value (.permission k.val (some b))))
    else (s, some (.refused p .lastLink)) := by
  simp only [policyItem, inRange_val]

/-- Settles O30, item by item. -/
theorem routingAndPolicySet : Obligations.RoutingAndPolicySet := by
  intro s l tag n hp
  refine ⟨fun i k hk ht => ?_, fun i h => ?_, fun x => ?_, ?_, fun a => ?_, ?_, fun k b h => ?_, fun k h => ?_, ?_⟩
  · have answer := exec_loadRouting tag i hp
    have targeted : (i.targets.console0 || i.targets.console1) = true := by simpa using ht
    simp only [routingItem, hk, if_pos targeted] at answer
    exact ⟨_, answer, rfl, unchangedBut_desk, rfl⟩
  · have refused : routingItem 1 i s = (s, some (.refused 1 .badField)) := by
      rcases h with hk | ⟨h0, h1⟩
      · simp only [routingItem, hk]
      · unfold routingItem
        split
        · simp [h0, h1]
        · rfl
    rw [exec_loadRouting tag i hp, refused]
    rfl
  · have value : clamp 0 7 n = min 7 n := by simp [clamp]
    refine ⟨_, exec_setPolicy tag (.exponent x n) hp, ⟨?_, ?_⟩, unchangedBut_policy⟩
    · cases x <;> simp only [policyItem, value] <;> rfl
    · simp only [policyItem, value]
      rfl
  · exact ⟨_, exec_setPolicy tag (.escalationCount n) hp, rfl, rfl, unchangedBut_policy⟩
  · exact ⟨_, exec_setPolicy tag (.approveDefault (some a)) hp, rfl, rfl, unchangedBut_policy⟩
  · exact ⟨_, exec_setPolicy tag (.highWater n) hp, highWater_judged _ _⟩
  · have answer := exec_setPolicy tag (.permission k.val (some b)) hp
    have taken (u : State) (hu : u.intake = s.intake) : policyItem 1 (.permission k.val (some b)) u =
        (u.setPermission k b, some (.value (.permission k.val (some b)))) := by
      rw [policyItem_permission, if_pos]
      rw [anyPermitted_setPermission]
      simpa only [permits, hu] using h
    rw [taken (s.respond _ _ _ _) rfl, taken s rfl] at answer
    exact ⟨_, answer, fun m => setPermission_permitted k m b, rfl, unchangedBut_permission⟩
  · refine exec_setPolicy_refused tag hp fun u hu => ?_
    have last : ¬(u.setPermission k false).anyPermitted = true := by
      rw [anyPermitted_setPermission]
      rintro (h' | ⟨m, e, permitted⟩)
      · simp at h'
      · exact h m e (by rwa [permits, ← hu])
    rw [policyItem_permission, if_neg last]
  · exact exec_setPolicy_refused tag hp fun _ _ => rfl

end Sys2Proof.OperatorPrompts
end

section
/-!
O59: DEFER, RECALL and the expiry of a defer timer (R115, R117 to R120, R131).
-/

namespace Sys2Proof.OperatorPrompts

open Machine DriveString WorkLists

variable {s t u : State} {c : Console} {n : Nat} {p q : Prompt}

/-! ### Desks alone -/

theorem unchangedBut_of_settled (h : Settled s t) : unchangedBut [.desk] s t := by
  rw [h.same]
  exact unchangedBut_desk

theorem updatePrompt_settled (n : Nat) (f : Prompt → Prompt)
    (hf : ∀ p, ((f p).number, (f p).kind, (f p).owner) = (p.number, p.kind, p.owner)) :
    Settled s (s.updatePrompt n f) where
  same := rfl
  sent := List.prefix_rfl
  names := by
    simp only [State.updatePrompt, List.map_map]
    refine List.map_congr_left fun p _ => ?_
    simp only [Function.comp_apply]
    split
    · exact hf p
    · rfl
  owed := rfl

/-- What a SHOW frame carries of a prompt does not depend on its timers (R116). -/
theorem shown_of_untimed {i k : Prompt} (h : untimed i = untimed k) : showing c i = showing c k :=
  (congrArg (showing c) h :)

/-- Where the open prompts stand, their timers apart, one is found again under its number. -/
theorem prompt_of_records (h : t.desk.prompts.map untimed = s.desk.prompts.map untimed) (hp : s.prompt? n = some p) :
    ∃ i, t.prompt? n = some i ∧ untimed i = untimed p := by
  have found : record? t n = some (untimed p) := by rw [record?_eq, h, ← record?_eq, record?, hp]; rfl
  exact Option.map_eq_some_iff.mp found

/-! ### Settling leaves the defer lists (R116) -/

/-- From `s` to `t` a console keeps its defer list, and no deferred prompt has entered its area. -/
structure Refilled (c : Console) (s t : State) : Prop where
  deferred : (t.console c).deferred = (s.console c).deferred
  area : ∀ m ∈ (t.console c).area, m ∈ (s.console c).area ∨ m ∉ (s.console c).deferred

theorem Refilled.refl (c : Console) (s : State) : Refilled c s s := ⟨rfl, fun _ h => .inl h⟩

theorem Refilled.trans (h : Refilled c s t) (k : Refilled c t u) : Refilled c s u where
  deferred := k.deferred.trans h.deferred
  area m hm := by
    rcases k.area m hm with hm | hm
    · exact h.area m hm
    · exact .inr (h.deferred ▸ hm)

theorem enterArea_console (c : Console) (n : Nat) (s : State) : (s.enterArea c n).console c =
    { s.console c with
      area := (s.desk.prompts.map Prompt.number).filter fun m => (s.console c).area.contains m || m = n } := by
  rw [State.enterArea, State.console, sendShow_desk]
  exact updateConsole_console s c _

theorem displace_console (c : Console) (n : Nat) (s : State) : (s.displace c n).console c =
    { s.console c with area := (s.console c).area.filter fun m => m ≠ n } :=
  updateConsole_console s c _

theorem enterArea_refilled (h : n ∉ (s.console c).deferred) : Refilled c s (s.enterArea c n) where
  deferred := by rw [enterArea_console]
  area m hm := by
    rw [enterArea_console] at hm
    simp only [List.mem_filter, Bool.or_eq_true, List.contains_iff_mem, decide_eq_true_eq] at hm
    rcases hm.2 with hm | rfl
    · exact .inl hm
    · exact .inr h

theorem displace_refilled (c : Console) (n : Nat) (s : State) : Refilled c s (s.displace c n) where
  deferred := by rw [displace_console]
  area m hm := by
    rw [displace_console] at hm
    exact .inl (List.mem_of_mem_filter hm)

theorem bestPrompt_mem {ps : List Prompt} (h : bestPrompt ps = some p) : p ∈ ps := by
  induction ps generalizing p with
  | nil => simp [bestPrompt] at h
  | cons x rest ih =>
    unfold bestPrompt at h
    split at h
    · next y hy =>
      split at h
      · exact Option.some.inj h ▸ List.mem_cons_of_mem x (ih hy)
      · exact Option.some.inj h ▸ List.mem_cons_self
    · exact Option.some.inj h ▸ List.mem_cons_self

/-- The prompt that enters a settling area waits for it, and so is not deferred there. -/
theorem settleStep_refilled (h : s.settleStep c = some t) : Refilled c s t := by
  unfold State.settleStep at h
  split at h
  · simp at h
  · next w hw =>
    have waits := List.of_mem_filter (bestPrompt_mem hw)
    have waiting : w.number ∉ (s.console c).deferred := by
      simp only [State.waitsFor, Bool.and_eq_true, Bool.not_eq_true', List.contains_eq_mem] at waits
      simpa using waits.2
    split at h
    · exact Option.some.inj h ▸ enterArea_refilled waiting
    · split at h
      · next l _ =>
        split at h
        · have displaced := displace_refilled c l.number s
          refine Option.some.inj h ▸ displaced.trans (enterArea_refilled ?_)
          rwa [displaced.deferred]
        · simp at h
      · simp at h

theorem settleWith_refilled (fuel : Nat) (s : State) : Refilled c s (s.settleWith c fuel) := by
  induction fuel generalizing s with
  | zero => exact .refl c s
  | succ fuel ih =>
    unfold State.settleWith
    split
    · next t h => exact (settleStep_refilled h).trans (ih t)
    · exact .refl c s

theorem settle_refilled (s : State) : Refilled c s (s.settle c) := settleWith_refilled 32 s

/-! ### Lists and defer timers (R118, R119) -/

/-- The state in which a console's lists have changed by `f` and a prompt's defer timer there stands at `d`. -/
def relisted (s : State) (c : Console) (n : Nat) (f : ConsoleState → ConsoleState) (d : Timer) : State :=
  ((s.updateConsole c f).updatePrompt n fun p => { p with deferTimers := p.deferTimers.set c d }).retime n
    (s.promptPosition n)

section
variable (s : State) (c : Console) (n : Nat) (f : ConsoleState → ConsoleState) (d : Timer)

theorem relisted_settled : Settled s (relisted s c n f d) :=
  .trans (.trans (updateConsole_settled s c f)
    (updatePrompt_settled n (fun p => { p with deferTimers := p.deferTimers.set c d }) fun _ => rfl))
    (retime_settled _ n _)

theorem relisted_console : (relisted s c n f d).console c = f (s.console c) := updateConsole_console s c f

theorem relisted_prompt (hp : s.prompt? n = some p) : ∃ i, (relisted s c n f d).prompt? n = some i ∧
    i.deferTimers = p.deferTimers.set c d ∧ showing c i = showing c p :=
  ⟨_, updatePrompt_prompt _ (updatePrompt_prompt _ hp fun _ => rfl) fun _ => rfl, rfl, rfl⟩

end

/-! ### DEFER (R118) -/

theorem deferPrompt_eq (c : Console) (n : Nat) (s : State) : s.deferPrompt c n =
    (relisted s c n (fun k => { area := k.area.filter fun m => m ≠ n, deferred := n :: k.deferred })
      (.running s.policy.deferTicks)).settle c := rfl

/-- A deferred prompt is at the top of the console's defer list, out of its area, with its defer timer started. -/
theorem deferPrompt_leaves (hp : s.prompt? n = some p) :
    let t := s.deferPrompt c n
    (t.console c).deferred = n :: (s.console c).deferred ∧ n ∉ (t.console c).area ∧
      (∃ i, t.prompt? n = some i ∧ i.deferTimers.get c = .running s.policy.deferTicks) ∧ Settled s t := by
  rw [deferPrompt_eq]
  intro t
  let aside := relisted s c n (fun k => { area := k.area.filter fun m => m ≠ n, deferred := n :: k.deferred })
    (.running s.policy.deferTicks)
  have console : aside.console c =
      { area := (s.console c).area.filter fun m => m ≠ n, deferred := n :: (s.console c).deferred } :=
    relisted_console s c n _ _
  have refilled : Refilled c aside t := settle_refilled aside
  obtain ⟨k, hk, timers, -⟩ := relisted_prompt s c n _ _ hp
  obtain ⟨i, hi, same⟩ := prompt_of_records (settleWith_records aside c 32) hk
  refine ⟨by rw [refilled.deferred, console], fun h => ?_, ⟨i, hi, ?_⟩,
    (relisted_settled s c n _ _).trans (settleWith_settled aside c 32)⟩
  · rcases refilled.area n h with h | h
    · simp [console] at h
    · simp [console] at h
  · have kept : i.deferTimers = k.deferTimers := (congrArg Prompt.deferTimers same :)
    rw [kept, timers, Bank.get_set_self]

theorem exec_replyDefer (hp : s.prompt? n = some p) (hn : n ∈ (s.console c).area) : exec (.replyDefer c n) s =
    if (s.console c).deferred.length < 4 then .next ((s.replyResult c n .accepted).deferPrompt c n)
    else .next (s.replyResult c n .listFull) := by
  have judged : s.judgeReply c n .defer = .accepted := by simp [State.judgeReply, State.judgeWord, hp, hn]
  change execReplyDefer c n s = _
  rw [execReplyDefer, judged]

/-! ### Whether a prompt may return (R115, R119) -/

/-- `p` is the lowest-ranked prompt of a console's area: the most recently posted of the lowest severity. -/
def LowestIn (s : State) (c : Console) (p : Prompt) : Prop :=
  ∃ earlier later, s.areaPrompts c = earlier ++ p :: later ∧
    (∀ i ∈ earlier, severityRank p.severity ≤ severityRank i.severity) ∧
    ∀ i ∈ later, severityRank p.severity < severityRank i.severity

theorem worstPrompt_none {ps : List Prompt} (h : worstPrompt ps = none) : ps = [] := by
  cases ps with
  | nil => rfl
  | cons x rest =>
    unfold worstPrompt at h
    (repeat' split at h) <;> simp at h

/-- Of a list in posting order the lowest-ranked prompt has none lower before it, and none as low after it. -/
theorem worstPrompt_splits {ps : List Prompt} (h : worstPrompt ps = some p) :
    ∃ earlier later, ps = earlier ++ p :: later ∧
      (∀ i ∈ earlier, severityRank p.severity ≤ severityRank i.severity) ∧
      ∀ i ∈ later, severityRank p.severity < severityRank i.severity := by
  induction ps generalizing p with
  | nil => simp [worstPrompt] at h
  | cons x rest ih =>
    unfold worstPrompt at h
    split at h
    · next y hy =>
      obtain ⟨earlier, later, rfl, before, after⟩ := ih hy
      split at h
      · next lower =>
        obtain rfl := Option.some.inj h
        refine ⟨[], _, rfl, by simp, fun i hi => ?_⟩
        rcases List.mem_append.mp hi with hi | hi
        · exact lower.trans_le (before i hi)
        · rcases List.mem_cons.mp hi with rfl | hi
          · exact lower
          · exact lower.trans (after i hi)
      · next higher =>
        obtain rfl := Option.some.inj h
        refine ⟨x :: earlier, later, rfl, fun i hi => ?_, after⟩
        rcases List.mem_cons.mp hi with rfl | hi
        · exact Nat.le_of_not_lt higher
        · exact before i hi
    · next hr =>
      obtain rfl := Option.some.inj h
      exact ⟨[], [], by rw [worstPrompt_none hr]; rfl, by simp, by simp⟩

theorem LowestIn.le (h : LowestIn s c p) {i : Prompt} (hi : i ∈ s.areaPrompts c) :
    severityRank p.severity ≤ severityRank i.severity := by
  obtain ⟨earlier, later, split, before, after⟩ := h
  rw [split] at hi
  rcases List.mem_append.mp hi with hi | hi
  · exact before i hi
  · rcases List.mem_cons.mp hi with rfl | hi
    · exact Nat.le_refl _
    · exact (after i hi).le

theorem judgeReturn_room (q : Prompt) (h : (s.console c).area.length < 4) : s.judgeReturn c q = .room := if_pos h

theorem judgeReturn_inPlaceOf (h : ¬(s.console c).area.length < 4)
    (ha : ∃ p ∈ s.areaPrompts c, severityRank p.severity < severityRank q.severity) :
    ∃ p, LowestIn s c p ∧ severityRank p.severity < severityRank q.severity ∧
      s.judgeReturn c q = .inPlaceOf p.number := by
  obtain ⟨i, hi, lower⟩ := ha
  cases e : worstPrompt (s.areaPrompts c) with
  | none => simp [worstPrompt_none e] at hi
  | some p =>
    have lowest : LowestIn s c p := worstPrompt_splits e
    have below := (lowest.le hi).trans_lt lower
    exact ⟨p, lowest, below, by simp only [State.judgeReturn, if_neg h, e, if_pos below]⟩

theorem judgeReturn_areaFull (h : ¬(s.console c).area.length < 4)
    (ha : ∀ p ∈ s.areaPrompts c, ¬severityRank p.severity < severityRank q.severity) :
    s.judgeReturn c q = .areaFull := by
  cases e : worstPrompt (s.areaPrompts c) with
  | none => simp only [State.judgeReturn, if_neg h, e]
  | some p =>
    obtain ⟨earlier, later, split, -⟩ := worstPrompt_splits e
    have member : p ∈ s.areaPrompts c := by rw [split]; simp
    simp only [State.judgeReturn, if_neg h, e, if_neg (ha p member)]

/-! ### The return of a prompt (R119) -/

/-- From `s` to `t` a deferred prompt has returned: it is out of the defer list, it has been shown, and the desk
alone has changed. -/
structure Returned (c : Console) (n : Nat) (p : Prompt) (s t : State) : Prop where
  left : n ∉ (t.console c).deferred
  shown : sentAmong (showing c p) s t
  settled : Settled s t

theorem returnPrompt_eq (c : Console) (n : Nat) (s : State) : s.returnPrompt c n =
    ((relisted s c n (fun k => { area := k.area, deferred := k.deferred.filter fun m => m ≠ n }) .stopped).enterArea
      c n).settle c := rfl

/-- A prompt that enters an area is sent in a SHOW frame (R116). -/
theorem enterArea_shows (hp : s.prompt? n = some p) : sentAmong (showing c p) s (s.enterArea c n) := by
  let v := s.updateConsole c fun k =>
    { k with area := (s.desk.prompts.map Prompt.number).filter fun m => k.area.contains m || m = n }
  have held : v.prompt? n = some p := hp
  obtain ⟨i, hi, same⟩ := prompt_of_records (retime_records v n (s.promptPosition n)) held
  have entered : s.enterArea c n =
      (v.retime n (s.promptPosition n)).tellConsole c (.showPrompt i.shown) := by
    change State.sendShow c n (v.retime n (s.promptPosition n)) = _
    rw [State.sendShow, hi]
  rw [entered, ← shown_of_untimed same]
  exact ⟨[showing c i], rfl, List.mem_singleton_self _⟩

theorem returnPrompt_returned (hp : s.prompt? n = some p) : Returned c n p s (s.returnPrompt c n) := by
  rw [returnPrompt_eq]
  let v := relisted s c n (fun k => { area := k.area, deferred := k.deferred.filter fun m => m ≠ n }) .stopped
  have gone : n ∉ (v.console c).deferred := by
    rw [show v.console c = _ from relisted_console s c n _ _]
    simp
  have undeferred : Settled s v := relisted_settled s c n _ _
  have settled : Settled (v.enterArea c n) ((v.enterArea c n).settle c) := settleWith_settled _ c 32
  have refilled : Refilled c v ((v.enterArea c n).settle c) := (enterArea_refilled gone).trans (settle_refilled _)
  obtain ⟨i, hi, -, same⟩ := relisted_prompt s c n _ _ hp
  have shows : sentAmong (showing c p) v (v.enterArea c n) := same ▸ enterArea_shows hi
  exact ⟨by rwa [refilled.deferred], sentAmong_before (sentAmong_after undeferred.sent shows) settled.sent,
    (undeferred.trans (enterArea_settled v c n)).trans settled⟩

/-- Steps before a return that leave the open prompts, their timers apart. -/
theorem Returned.after {i : Prompt} (h : Returned c n i u t) (hs : Settled s u) (hi : untimed i = untimed p) :
    Returned c n p s t where
  left := h.left
  shown := shown_of_untimed hi ▸ sentAmong_after hs.sent h.shown
  settled := hs.trans h.settled

/-- A return in place of another prompt, which is sent REMOVE with DISPLACED (R117). -/
theorem displace_returned (l : Nat) (hp : s.prompt? n = some p) :
    Returned c n p s ((s.displace c l).returnPrompt c n) ∧
      sentAmong (.console c (.remove l .displaced)) s ((s.displace c l).returnPrompt c n) := by
  obtain ⟨i, hi, same⟩ := prompt_of_records (displace_records s c l) hp
  have returned := returnPrompt_returned (c := c) hi
  exact ⟨returned.after (displace_settled s c l) same,
    sentAmong_before ⟨_, rfl, List.mem_singleton_self _⟩ returned.settled.sent⟩

/-! ### RECALL and DEFER_EXPIRY (R119, R120) -/

theorem exec_recall_none (h : (s.console c).deferred = []) :
    exec (.recall c) s = .next (afterSending [.console c (.replyResult none .nothingDeferred)] s) := by
  change execRecall c s = _
  simp only [execRecall, h]
  rfl

/-- What RECALL does for a prompt, as its return is judged (R119). -/
def recalled (s : State) (c : Console) (n : Nat) : Return → State
  | .room => (s.replyResult c n .accepted).returnPrompt c n
  | .inPlaceOf l => ((s.replyResult c n .accepted).displace c l).returnPrompt c n
  | .areaFull => s.replyResult c n .areaFull

theorem exec_recall {rest : List Nat} (h : (s.console c).deferred = n :: rest) (hp : s.prompt? n = some p) :
    exec (.recall c) s = .next (recalled s c n (s.judgeReturn c p)) := by
  change execRecall c s = _
  simp only [execRecall, h, hp]
  cases s.judgeReturn c p <;> rfl

/-- What the expiry of a defer timer does for a prompt, as its return is judged (R120). -/
def reconsidered (s : State) (c : Console) (n : Nat) : Return → State
  | .room => s.returnPrompt c n
  | .inPlaceOf l => (s.displace c l).returnPrompt c n
  | .areaFull => s.updatePrompt n fun p =>
      { p with deferTimers := p.deferTimers.set c (.running s.policy.deferTicks) }

theorem exec_deferExpiry (hp : s.prompt? n = some p) (hn : n ∈ (s.console c).deferred)
    (hr : (p.deferTimers.get c).isRunning = true) :
    exec (.deferExpiry c n) s = .next (reconsidered s c n (s.judgeReturn c p)) := by
  change execDeferExpiry c n s = _
  simp only [execDeferExpiry, hp, hr, List.contains_iff_mem.mpr hn, Bool.and_self, if_true]
  cases s.judgeReturn c p <;> rfl

theorem exec_deferExpiry_stopped (hp : s.prompt? n = some p) (hr : (p.deferTimers.get c).isRunning = false) :
    exec (.deferExpiry c n) s = .next s := by
  change execDeferExpiry c n s = _
  simp [execDeferExpiry, hp, hr]

/-- A return, as the statement on RECALL and on a defer timer's expiry says it. -/
theorem returns_of (h : Returned c n p s t) :
    n ∉ (t.console c).deferred ∧ sentAmong (showing c p) s t ∧ unchangedBut [.desk] s t :=
  ⟨h.left, h.shown, unchangedBut_of_settled h.settled⟩

/-- A RECALL that is accepted says so first. -/
theorem recalled_first (h : Settled (s.replyResult c n .accepted) t) :
    sentFirst (.console c (.replyResult (some n) .accepted)) s t := sentFirst_of_prefix h.sent

/-- A return after the REPLY_RESULT of its RECALL. -/
theorem Returned.afterResult (h : Returned c n p (s.replyResult c n .accepted) t) : Returned c n p s t :=
  h.after (tellConsole_settled s c _) rfl

/-- RECALL of the prompt at the top of the defer list (R119). -/
theorem recall_acts {rest : List Nat} (hp : s.prompt? n = some q) (h : (s.console c).deferred = n :: rest) :
    let accepted := Sent.console c (.replyResult (some n) .accepted)
    ((s.console c).area.length < 4 →
      ∃ t, exec (.recall c) s = .next t ∧ sentFirst accepted s t ∧ Returned c n q s t) ∧
    (¬(s.console c).area.length < 4 →
      (∃ p ∈ s.areaPrompts c, severityRank p.severity < severityRank q.severity) →
      ∃ t, exec (.recall c) s = .next t ∧ sentFirst accepted s t ∧ Returned c n q s t ∧
        ∃ p, LowestIn s c p ∧ severityRank p.severity < severityRank q.severity ∧
          sentAmong (.console c (.remove p.number .displaced)) s t) ∧
    (¬(s.console c).area.length < 4 →
      (∀ p ∈ s.areaPrompts c, ¬severityRank p.severity < severityRank q.severity) →
      exec (.recall c) s = .next (afterSending [.console c (.replyResult (some n) .areaFull)] s)) := by
  intro accepted
  have answer := exec_recall h hp
  let u := s.replyResult c n .accepted
  have held : u.prompt? n = some q := hp
  refine ⟨fun room => ?_, fun full lower => ?_, fun full none => ?_⟩
  · rw [judgeReturn_room q room] at answer
    have returned : Returned c n q u (u.returnPrompt c n) := returnPrompt_returned held
    exact ⟨_, answer, recalled_first returned.settled, returned.afterResult⟩
  · obtain ⟨p, lowest, below, judged⟩ := judgeReturn_inPlaceOf full lower
    rw [judged] at answer
    obtain ⟨returned, removed⟩ := displace_returned (c := c) p.number held
    exact ⟨_, answer, recalled_first returned.settled, returned.afterResult, p, lowest, below,
      sentAmong_after (tellConsole_settled s c _).sent removed⟩
  · rw [judgeReturn_areaFull full none] at answer
    exact answer

/-- The expiry of a running defer timer (R120). -/
theorem deferExpiry_acts (hp : s.prompt? n = some q) (hn : n ∈ (s.console c).deferred)
    (hr : (q.deferTimers.get c).isRunning = true) :
    ((s.console c).area.length < 4 → ∃ t, exec (.deferExpiry c n) s = .next t ∧ Returned c n q s t) ∧
    (¬(s.console c).area.length < 4 →
      (∃ p ∈ s.areaPrompts c, severityRank p.severity < severityRank q.severity) →
      ∃ t, exec (.deferExpiry c n) s = .next t ∧ Returned c n q s t ∧
        ∃ p, LowestIn s c p ∧ severityRank p.severity < severityRank q.severity ∧
          sentAmong (.console c (.remove p.number .displaced)) s t) ∧
    (¬(s.console c).area.length < 4 →
      (∀ p ∈ s.areaPrompts c, ¬severityRank p.severity < severityRank q.severity) →
      exec (.deferExpiry c n) s = .next (s.updatePrompt n fun p =>
        { p with deferTimers := p.deferTimers.set c (.running s.policy.deferTicks) })) := by
  have answer := exec_deferExpiry hp hn hr
  refine ⟨fun room => ?_, fun full lower => ?_, fun full none => ?_⟩
  · rw [judgeReturn_room q room] at answer
    exact ⟨_, answer, returnPrompt_returned hp⟩
  · obtain ⟨p, lowest, below, judged⟩ := judgeReturn_inPlaceOf full lower
    rw [judged] at answer
    obtain ⟨returned, removed⟩ := displace_returned (c := c) p.number hp
    exact ⟨_, answer, returned, p, lowest, below, removed⟩
  · rw [judgeReturn_areaFull full none] at answer
    exact answer

/-- DEFER of a shown prompt (R118). -/
theorem defer_acts (hp : s.prompt? n = some p) (hn : n ∈ (s.console c).area) :
    ((s.console c).deferred.length < 4 → ∃ t i, exec (.replyDefer c n) s = .next t ∧
      sentFirst (.console c (.replyResult (some n) .accepted)) s t ∧
      (t.console c).deferred = n :: (s.console c).deferred ∧ n ∉ (t.console c).area ∧
      t.prompt? n = some i ∧ i.deferTimers.get c = .running s.policy.deferTicks ∧ unchangedBut [.desk] s t) ∧
    (4 ≤ (s.console c).deferred.length → exec (.replyDefer c n) s =
      .next (afterSending [.console c (.replyResult (some n) .listFull)] s)) := by
  have answer := exec_replyDefer hp hn
  refine ⟨fun room => ?_, fun full => ?_⟩
  · rw [if_pos room] at answer
    let u := s.replyResult c n .accepted
    have held : u.prompt? n = some p := hp
    obtain ⟨top, out, ⟨i, hi, timer⟩, settled⟩ := deferPrompt_leaves (c := c) held
    exact ⟨_, i, answer, recalled_first settled, top, out, hi, timer,
      unchangedBut_of_settled ((tellConsole_settled s c _).trans settled)⟩
  · rw [if_neg (Nat.not_lt.mpr full)] at answer
    exact answer

/-- Settles O59, by the room in the console's area and the rank of what it shows. -/
theorem deferAndRecall : Obligations.DeferAndRecall := by
  intro s c defers result
  refine ⟨fun n q hq hn => defer_acts hq hn, exec_recall_none, fun n q hq => ?_⟩
  intro room above returns displaces stays
  have displaced {t : State} : (∃ p, LowestIn s c p ∧ above p ∧
      sentAmong (.console c (.remove p.number .displaced)) s t) → displaces t := by
    rintro ⟨p, ⟨earlier, later, split, before, after⟩, lower, removed⟩
    exact ⟨earlier, p, later, split, lower, before, after, removed⟩
  refine ⟨fun rest h => ?_, fun hn hr => ?_, exec_deferExpiry_stopped hq⟩
  · obtain ⟨enters, replaces, full⟩ := recall_acts hq h
    refine ⟨fun free => ?_, fun no lower => ?_, fun h => full h.1 h.2⟩
    · obtain ⟨t, answer, first, returned⟩ := enters free
      exact ⟨t, answer, first, returns_of returned⟩
    · obtain ⟨t, answer, first, returned, lowest⟩ := replaces no lower
      exact ⟨t, answer, first, returns_of returned, displaced lowest⟩
  · obtain ⟨enters, replaces, full⟩ := deferExpiry_acts hq hn hr
    refine ⟨fun free => ?_, fun no lower => ?_, fun h => ?_⟩
    · obtain ⟨t, answer, returned⟩ := enters free
      exact ⟨t, answer, returns_of returned⟩
    · obtain ⟨t, answer, returned, lowest⟩ := replaces no lower
      exact ⟨t, answer, returns_of returned, displaced lowest⟩
    · exact ⟨_, full h.1 h.2, rfl, updatePrompt_prompt _ hq fun _ => rfl, rfl,
        unchangedBut_of_settled (updatePrompt_settled n _ fun _ => rfl)⟩

end Sys2Proof.OperatorPrompts
end

section
/-!
O54: how a REPLY is refused or accepted (R124 to R126).
-/

namespace Sys2Proof.OperatorPrompts

open Machine DriveString WorkLists

variable {s t u : State} {c : Console} {n : Nat} {q : Prompt} {w : Machine.Word}

/-! ### What no reply changes -/

/-- The parts of a state that no reply changes. -/
def settledParts (s : State) : Still := { quiet s with map := State.reset.map }

/-- From `s` to `t` frames have been sent, and nothing has changed that no reply changes. -/
structure Onward (s t : State) : Prop where
  parts : settledParts t = settledParts s
  sent : s.sent <+: t.sent

theorem unchangedBut_of_onward (h : Onward s t) : unchangedBut (aftermath ++ [.map, .accounting, .errors]) s t := by
  refine ⟨fun b hb => ?_, (congrArg Still.pending h.parts :), (congrArg Still.choices h.parts :)⟩
  cases b <;> first
    | exact absurd (by decide) hb
    | exact (congrArg Still.intake h.parts :)
    | exact (congrArg Still.clock h.parts :)
    | exact (congrArg Still.causes h.parts :)
    | exact (congrArg Still.policy h.parts :)

namespace Onward

theorem refl (s : State) : Onward s s := ⟨rfl, List.prefix_rfl⟩

theorem trans (h : Onward s t) (k : Onward t u) : Onward s u := ⟨k.parts.trans h.parts, h.sent.trans k.sent⟩

theorem of_slight {k : Nat} (h : Slight k s t) : Onward s t := ⟨by simp only [settledParts, h.quiet], h.sent⟩

/-- Then a step that leaves what the settling of a job leaves, and may log errors. -/
theorem slight {k : Nat} (h : Onward s t) (i : Slight k t u) : Onward s u := h.trans (of_slight i)

/-- Then a step by which a job may have been settled. -/
theorem loose {k : Nat} (h : Onward s t) (i : Loose k t u) : Onward s u := h.slight i.toSlight

/-- Then work on prompts. -/
theorem asked {W : Nat → Owner → Prop} (h : Onward s t) (k : Asked W t u) : Onward s u :=
  h.trans ⟨by simp only [settledParts, quiet, bare, k.still], k.sent⟩

/-- Then a step that an event's aftermath may make. -/
theorem calm {X : Nat → Prop} {g o : Prop} (h : Onward s t) (k : Calm X g o t u) : Onward s u := h.loose k.loose

end Onward

/-! ### Volumes that move (R4) -/

theorem moveVolume_onward (v : Nat) (l : Location) (s : State) : Onward s (s.moveVolume v l) :=
  ⟨by rw [moveVolume_same]; rfl, moveVolume_sent v l⟩

/-- A volume moves, if there is one. -/
theorem moveSome_onward (o : Option Nat) (l : Location) (s : State) : Onward s (match o with
    | some v => s.moveVolume v l
    | none => s) := by
  cases o with
  | some v => exact moveVolume_onward v l s
  | none => exact .refl s

/-- A job waits again, with its retry unused. -/
theorem waitAgain_onward (m : Nat) (h : Onward s t) :
    Onward s ((t.updateJob m fun j => { j with retryUsed := false }).setJobState m .waiting) :=
  (h.loose (updateJob_loose t m _)).loose (setJobState_loose _ m _)

/-- An outcome handed to a job (R125). -/
theorem toJob_onward {act : Nat → Job → State → State} (h : ∀ n j u, Onward u (act n j u)) (r : JobRef) (s : State) :
    Onward s (s.toJob r act) := by
  unfold State.toJob
  split
  · exact h _ _ _
  · exact .refl s

theorem endJob_onward (m : Nat) (f : Option Lifecycle) (h : Onward s t) : Onward s (t.endJob m f) :=
  h.loose (endJob_loose t m f)

theorem holdEval_onward (m : Nat) (h : Onward s t) : Onward s (t.holdEval m) :=
  h.calm (holdEval_calm (g := True) (o := True) t m)

/-! ### DONE -/

theorem mountedByHand_onward (m : Nat) (j : Job) (s : State) : Onward s (s.mountedByHand m j) := by
  unfold State.mountedByHand
  split
  · exact .refl s
  · exact ((moveSome_onward _ _ s).slight (updateDrive_slight _ _ _)).loose (setJobState_loose _ m _)

theorem takenByHand_onward (d : DriveId) (s : State) : Onward s (s.takenByHand d) := moveSome_onward _ _ s

theorem afterHandDemount_onward (d : DriveId) (h : Onward s t) : Onward s (t.afterHandDemount d) := by
  unfold State.afterHandDemount
  split
  · exact h.asked (postService_asked t d)
  · exact h

theorem demountedByHand_onward (p : PromptParams) (m : Nat) (j : Job) (s : State) :
    Onward s (s.demountedByHand p m j) := by
  have emptied (d : DriveId) (t : State) :
      Onward t (if (t.drive d).state = .awaitingPull then t.emptyDrive d else t) := by
    split
    · next h => exact (Onward.refl t).loose (emptyDrive_loose t d (by rw [h]; simp))
    · exact .refl t
  unfold State.demountedByHand
  dsimp only
  split
  · exact endJob_onward m _ (.refl s)
  · next d _ =>
    have ended := endJob_onward m (if j.kind = .demount then some Lifecycle.demountComplete else none)
      ((takenByHand_onward d s).trans (emptied d _))
    split
    · exact afterHandDemount_onward _ ended
    · exact ended

theorem ringChanged_onward (r : RingState) (m : Nat) (j : Job) (s : State) : Onward s (s.ringChanged r m j) := by
  unfold State.ringChanged
  refine waitAgain_onward m ?_
  split
  · exact ⟨rfl, List.prefix_rfl⟩
  · exact .refl s

theorem placedInHatch_onward (m : Nat) (j : Job) (s : State) : Onward s (s.placedInHatch m j) := by
  unfold State.placedInHatch
  split
  · next b v _ _ =>
    have placed : Onward s ((s.moveVolume v (.hatch b)).setHatch b (.holding v (some (j.ref m)))) :=
      (moveVolume_onward v _ s).trans ⟨rfl, List.prefix_rfl⟩
    exact (placed.loose (updateJob_loose _ m _)).loose (setJobState_loose _ m _)
  · exact .refl s

theorem takenFromHatch_onward (b : HatchBay) (s : State) : Onward s (s.takenFromHatch b) :=
  (moveSome_onward _ _ s).trans ⟨rfl, List.prefix_rfl⟩

theorem driveServiced_onward (d : DriveId) (s : State) : Onward s (s.driveServiced d) := by
  unfold State.driveServiced
  split
  · exact ((Onward.refl s).slight (updateDrive_slight s d _)).loose (evalDriveService_loose _)
  · exact .refl s

theorem wrongReelDone_onward (m : Nat) (j : Job) (s : State) : Onward s (s.wrongReelDone m j) := by
  have released (d : DriveId) : Onward s (s.releaseWrongReel m d) := by
    unfold State.releaseWrongReel
    split
    · exact ((Onward.refl s).loose (updateJob_loose s m _)).loose (setJobState_loose _ m _)
    · exact ((Onward.refl s).loose (setJobState_loose s m _)).loose (postForJob_loose _ m _ _)
  unfold State.wrongReelDone
  split
  · split
    · exact released _
    · exact .refl s
  · exact .refl s

theorem actDone_onward (p : Prompt) (s : State) : Onward s (s.actDone p) := by
  unfold State.actDone
  split
  · exact toJob_onward mountedByHand_onward _ s
  · exact toJob_onward (demountedByHand_onward p.params) _ s
  · exact afterHandDemount_onward _ (takenByHand_onward _ s)
  · exact toJob_onward (ringChanged_onward .ringIn) _ s
  · exact toJob_onward (ringChanged_onward .ringOut) _ s
  · exact toJob_onward placedInHatch_onward _ s
  · exact takenFromHatch_onward _ s
  · exact driveServiced_onward _ s
  · exact toJob_onward wrongReelDone_onward _ s
  · exact .refl s

/-! ### CANCEL -/

theorem ringRefused_onward (m : Nat) (j : Job) (s : State) : Onward s (s.ringRefused m j) := by
  unfold State.ringRefused
  split
  · exact .refl s
  · next b _ =>
    have turned := ((Onward.refl s).loose (sendFailure_loose s m (.mountFailed .operatorCancel))).loose
      (updateJob_loose _ m fun j => { j with
        returning := true, legs := [.ringTake b, (s.sendFailure m (.mountFailed .operatorCancel)).homeLeg j.volume]
        leg := 0 })
    refine Onward.loose (Onward.loose ?_ (updateJob_loose _ m _)) (setJobState_loose _ m _)
    split
    · exact turned.loose (driveJobEnded_loose _ m _)
    · exact turned

theorem dropVolume_onward (m : Nat) (s : State) : Onward s (s.dropVolume m) :=
  (Onward.refl s).loose (dropVolume_loose s m)

theorem giveUpFetch_onward (m : Nat) (j : Job) (s : State) : Onward s (s.giveUpFetch m j) := by
  unfold State.giveUpFetch
  split
  · exact dropVolume_onward m s
  · exact endJob_onward m _ (.refl s)

theorem giveUpPull_onward (m : Nat) (j : Job) (d : DriveId) (s : State) : Onward s (s.giveUpPull m j d) :=
  endJob_onward m _ ((Onward.refl s).slight (enterService_slight s d))

theorem giveUpRing_onward (m : Nat) (j : Job) (b : RingBay) (s : State) : Onward s (s.giveUpRing m j b) := by
  have emptied : Onward s _ := (moveSome_onward (s.station.ring.get b).volume? .shelf s).trans
    (u := (State.setRing b .free _).updateJob m fun j => { j with ringBay := none }) ⟨rfl, List.prefix_rfl⟩
  unfold State.giveUpRing
  dsimp only
  split
  · exact endJob_onward m _ emptied
  · split
    · exact holdEval_onward m emptied
    · exact endJob_onward m _ emptied
    · exact endJob_onward m _ emptied
    · exact endJob_onward m _ emptied
    · exact endJob_onward m _ emptied

theorem giveUpHatch_onward (m : Nat) (j : Job) (b : HatchBay) (s : State) : Onward s (s.giveUpHatch m j b) := by
  have left : Onward s ((s.endJob m (j.failure .reelCheck .reelCheck)).setHatch b
      (heldBay (s.station.hatch.get b).volume? none)) :=
    (endJob_onward m _ (.refl s)).trans ⟨rfl, List.prefix_rfl⟩
  unfold State.giveUpHatch State.postTakeFromHatch
  exact left.asked (post_asked _ _ _ _ _)

theorem checkCancelled_onward (m : Nat) (j : Job) (s : State) : Onward s (s.checkCancelled m j) := by
  unfold State.checkCancelled
  split
  · exact endJob_onward m _ (.refl s)
  · split
    · exact giveUpFetch_onward m j s
    · exact giveUpPull_onward m j _ s
    · exact giveUpRing_onward m j _ s
    · exact giveUpHatch_onward m j _ s
    · exact .refl s
  · exact .refl s

theorem verifyCancelled_onward (m : Nat) (j : Job) (s : State) : Onward s (s.verifyCancelled m j) := by
  unfold State.verifyCancelled
  split
  · exact dropVolume_onward m s
  · exact endJob_onward m _ (.refl s)

theorem actCancel_onward (p : Prompt) (s : State) : Onward s (s.actCancel p) := by
  unfold State.actCancel
  split
  · exact toJob_onward (fun m _ u => endJob_onward m _ (.refl u)) _ s
  · exact toJob_onward ringRefused_onward _ s
  · exact toJob_onward checkCancelled_onward _ s
  · exact toJob_onward verifyCancelled_onward _ s
  · exact toJob_onward (fun m _ u => endJob_onward m _ (.refl u)) _ s
  · exact .refl s

/-! ### APPROVE, DENY, RETRY, INCELL and OUTSIDE -/

theorem actApprove_onward (p : Prompt) (s : State) : Onward s (s.actApprove p) := by
  unfold State.actApprove
  split
  · exact toJob_onward (fun m i u => (Onward.refl u).calm (approved_calm m i)) _ s
  · exact .refl s

theorem actDeny_onward (p : Prompt) (s : State) : Onward s (s.actDeny p) := by
  unfold State.actDeny
  split
  · exact toJob_onward (fun m _ u => endJob_onward m _ (.refl u)) _ s
  · exact .refl s

theorem checkRetried_onward (m : Nat) (j : Job) (s : State) : Onward s (s.checkRetried m j) := by
  have cleared : Onward s (s.clearSuspect j) := by
    unfold State.clearSuspect
    split
    · exact ⟨rfl, List.prefix_rfl⟩
    · exact .refl s
  unfold State.checkRetried
  split
  · exact holdEval_onward m cleared
  · refine waitAgain_onward m ?_
    split
    · exact cleared
    · exact .refl s
  · exact .refl s

theorem actRetry_onward (p : Prompt) (s : State) : Onward s (s.actRetry p) := by
  unfold State.actRetry
  split
  · exact toJob_onward checkRetried_onward _ s
  · split
    · exact ⟨rfl, List.prefix_rfl⟩
    · exact .refl s
  · exact .refl s
  · exact .refl s
  · exact .refl s

theorem foundInCell_onward (m : Nat) (j : Job) (s : State) : Onward s (s.foundInCell m j) := by
  have found : Onward s (match j.volume with
      | some v => s.moveVolume v (if (s.homeCell v).isSome then .cell else .shelf)
      | none => s) := by
    split
    · exact moveVolume_onward _ _ s
    · exact .refl s
  unfold State.foundInCell
  dsimp only
  split
  · exact holdEval_onward m found
  · exact waitAgain_onward m found

theorem foundOutside_onward (m : Nat) (j : Job) (s : State) : Onward s (s.foundOutside m j) := by
  have found := moveSome_onward j.volume .shelf s
  unfold State.foundOutside
  dsimp only
  split
  · exact found.loose (dropVolume_loose _ m)
  · split
    · exact holdEval_onward m found
    · exact endJob_onward m _ found

theorem actInCell_onward (p : Prompt) (s : State) : Onward s (s.actInCell p) := by
  unfold State.actInCell
  split
  · exact toJob_onward foundInCell_onward _ s
  all_goals exact .refl s

theorem actOutside_onward (p : Prompt) (s : State) : Onward s (s.actOutside p) := by
  unfold State.actOutside
  split
  · exact toJob_onward foundOutside_onward _ s
  all_goals exact .refl s

/-! ### RESTORED, PARKED and REMOVED -/

theorem letGo_onward (x : ArmId) (l : Location) (s : State) : Onward s (s.letGo x l) :=
  ((Onward.refl s).slight (updateArm_slight s x _)).trans (moveSome_onward _ l _)

theorem jobReelRemoved_onward (m : Nat) (j : Job) (known : Bool) (h : Onward s t) :
    Onward s (t.jobReelRemoved m j known) := by
  have back := h.loose (giveBackBays_loose t m)
  unfold State.jobReelRemoved
  split
  · exact (waitAgain_onward m back).loose (releaseArm_loose _ m)
  · split
    · exact endJob_onward m _ h
    · split
      · exact holdEval_onward m (back.loose (releaseArm_loose _ m))
      all_goals exact endJob_onward m _ h

theorem reelRemoved_onward (x : ArmId) (s : State) : Onward s (s.reelRemoved x) := by
  unfold State.reelRemoved
  refine Onward.slight ?_ (updateArm_slight _ x _)
  split
  · exact jobReelRemoved_onward _ _ _ (letGo_onward x _ s)
  · exact letGo_onward x _ s

theorem parkArm_onward (x : ArmId) (s : State) : Onward s (s.parkArm x) := by
  unfold State.parkArm
  refine Onward.loose (Onward.slight ?_ (updateArm_slight _ x _)) (evalArmState_loose _)
  split
  · exact .refl s
  · exact reelRemoved_onward x s

theorem dispatch_onward (x : ArmId) (o : Order) (h : Onward s t) : Onward s (t.dispatch x o) := by
  refine h.trans ⟨by simp only [settledParts, quiet, bare, dispatch_still], ?_⟩
  unfold State.dispatch
  split
  · cases x <;> exact List.prefix_append _ _
  · exact (updateArm_slight t x _).sent

theorem rehome_onward (x : ArmId) (restored : Bool) (s : State) : Onward s (s.rehome x restored) := by
  unfold State.rehome
  exact dispatch_onward x .home (((Onward.refl s).slight (updateArm_slight s x _)).loose (evalArmState_loose _))

theorem actRestored_onward (p : Prompt) (s : State) : Onward s (s.actRestored p) := by
  unfold State.actRestored
  split
  · exact rehome_onward _ true s
  all_goals exact .refl s

theorem actParked_onward (p : Prompt) (s : State) : Onward s (s.actParked p) := by
  unfold State.actParked
  split
  · exact parkArm_onward _ s
  all_goals exact .refl s

theorem actRemoved_onward (p : Prompt) (s : State) : Onward s (s.actRemoved p) := by
  unfold State.actRemoved
  split
  · exact (reelRemoved_onward _ s).asked (post_arm_asked (W := fun _ _ => False) _ _ _ _ _)
  all_goals exact .refl s

/-! ### Any REPLY (R124 to R126) -/

/-- What a reply word does for the owner of its prompt; DEFER, which closes nothing, has no such act. -/
def replyAct : Machine.Word → Prompt → State → State
  | .done => State.actDone
  | .cancel => State.actCancel
  | .approve => State.actApprove
  | .deny => State.actDeny
  | .retry => State.actRetry
  | .inCell => State.actInCell
  | .outside => State.actOutside
  | .restored => State.actRestored
  | .parked => State.actParked
  | .removed => State.actRemoved
  | .defer => fun _ s => s

theorem exec_reply (hw : w ≠ .defer) : exec (replyCommand c n w) s = takeReply c n w (replyAct w) s := by
  cases w <;> first
    | rfl
    | exact absurd rfl hw

theorem replyAct_onward (w : Machine.Word) (p : Prompt) (s : State) : Onward s (replyAct w p s) := by
  cases w with
  | done => exact actDone_onward p s
  | cancel => exact actCancel_onward p s
  | approve => exact actApprove_onward p s
  | deny => exact actDeny_onward p s
  | retry => exact actRetry_onward p s
  | inCell => exact actInCell_onward p s
  | outside => exact actOutside_onward p s
  | restored => exact actRestored_onward p s
  | parked => exact actParked_onward p s
  | removed => exact actRemoved_onward p s
  | defer => exact .refl s

/-- A REPLY that a check refuses is answered with that result and changes nothing else (R124). -/
theorem exec_reply_refused {r : ReplyResult} (h : s.judgeReply c n w = r) (hr : r ≠ .accepted) :
    exec (replyCommand c n w) s = .next (afterSending [.console c (.replyResult (some n) r)] s) := by
  by_cases hw : w = .defer
  · subst hw
    change execReplyDefer c n s = _
    unfold execReplyDefer
    rw [h]
    cases r <;> first
      | rfl
      | exact absurd rfl hr
  · rw [exec_reply hw, takeReply_refused s c n w _ r h hr]
    rfl

/-- An accepted reply answers ACCEPTED first, and its prompt leaves the consoles that held it (R124, R125). -/
theorem answered_sends (o : Owner) :
    sentFirst (.console c (.replyResult (some n) .accepted)) s (answered s c n o) ∧
      ∀ k, n ∈ (s.console k).area ∨ n ∈ (s.console k).deferred →
        sentAmong (.console k (.remove n .answered)) s (answered s c n o) := by
  let v := s.replyResult c n .accepted
  have closed : v.sent <+: (v.closePrompt n .answered).sent := (closePrompt_asked v n .answered).sent
  have forgotten : Asked (fun _ _ => True) (v.closePrompt n .answered) (answered s c n o) := forget_asked o n
  refine ⟨sentFirst_of_prefix (closed.trans forgotten.sent), fun k hk => ?_⟩
  have removed : sentAmong (.console k (.remove n .answered)) v (v.closePrompt n .answered) :=
    closePrompt_removes .answered hk
  exact sentAmong_before (sentAmong_after (tellConsole_settled s c _).sent removed) forgotten.sent

/-- Settles O54: the checks in their order, and what every accepted word has in common. -/
theorem replyTaken : Obligations.ReplyTaken := by
  intro s c n w refused
  refine ⟨fun hn => ?_, fun q hq hn => ?_, fun q hq hn hd hw => ?_, fun q ht hd => ?_⟩
  · exact exec_reply_refused (by simp [State.judgeReply, State.judgeWord, hn]) (by simp)
  · exact exec_reply_refused (by simp [State.judgeReply, State.judgeWord, hq, hn]) (by simp)
  · exact exec_reply_refused (by simp [State.judgeReply, State.judgeWord, hq, hn, hd, hw]) (by simp)
  · have answer := takeReply_accepted (replyAct w) ht
    obtain ⟨first, removed⟩ := answered_sends (s := s) (c := c) (n := n) q.owner
    have taken : Onward s (answered s c n q.owner) := (Onward.refl s).asked (answered_asked c n q.owner)
    generalize answered s c n q.owner = v at answer first removed taken
    have acted : Onward v (State.finish s (replyAct w q v)) :=
      (replyAct_onward w q v).calm (finish_calm_any (replyAct w q v) s)
    refine ⟨_, (exec_reply hd).trans answer, ?_, fun k hk => sentAmong_before (removed k hk) acted.sent,
      unchangedBut_of_onward (taken.trans acted)⟩
    obtain ⟨fs, hfs⟩ := first
    exact sentFirst_of_prefix (.trans ⟨fs, by rw [hfs]; simp⟩ acted.sent)

end Sys2Proof.OperatorPrompts
end

section
/-!
O29: LOAD_TARIFF (R143, R144).
-/

namespace Sys2Proof.ClockTariff

open Machine DriveString OperatorPrompts

variable {s : State} {f : TariffFrame}

/-! ### The command, by its judgement -/

theorem exec_loadTariff_refused {l : Link} (tag : Nat) {i : TariffItem} {r : Reason} (hp : permits s l)
    (h : judgeTariff f = some (i, r)) : exec (.loadTariff l tag f) s =
      .next (afterSending [response l tag .loadTariff (.tableRejectTariff i r)] s) := by
  change execLoadTariff l tag f s = _
  rw [execLoadTariff, managed_permitted s l tag _ _ hp]
  simp only [h]
  rfl

theorem exec_loadTariff_taken {l : Link} (tag : Nat) (hp : permits s l) (h : judgeTariff f = none) :
    exec (.loadTariff l tag f) s = .next (if s.mode = .configure then
      { s with
        accounting := { s.accounting with active := tariffOf f, pendingTariff := none }
        sent := s.sent ++ [response l tag .loadTariff .acceptedActive] }
    else
      { s with
        accounting := { s.accounting with pendingTariff := some (tariffOf f) }
        sent := s.sent ++ [response l tag .loadTariff .acceptedPending] }) := by
  change execLoadTariff l tag f s = _
  rw [execLoadTariff, managed_permitted s l tag _ _ hp]
  simp only [h]
  rfl

theorem unchangedBut_accounting {a : Accounting} {fs : List Sent} :
    unchangedBut [.accounting] s { s with accounting := a, sent := fs } := by
  refine ⟨fun b hb => ?_, rfl, rfl⟩
  cases b <;> first
    | exact absurd (by decide) hb
    | rfl

/-! ### The starts of a tariff (R143) -/

/-- The starts held are those of the bands below the band count. -/
theorem heldStarts_get? (h4 : f.bandCount ≤ 4) (i : Nat) (x : Nat) :
    (heldStarts f)[i]? = some x ↔ ∃ k : Fin 4, k.val = i ∧ i < f.bandCount ∧ f.starts.get k = x := by
  rw [heldStarts, List.getElem?_take]
  split
  · next hi =>
    have size := f.starts.size
    rw [List.getElem?_eq_getElem (by omega)]
    constructor
    · rintro ⟨⟩
      exact ⟨⟨i, by omega⟩, rfl, hi, rfl⟩
    · rintro ⟨k, rfl, -, rfl⟩
      rfl
  · next hi => exact ⟨fun h => by simp at h, fun ⟨_, _, h, _⟩ => absurd h hi⟩

theorem heldStarts_head (h1 : 1 ≤ f.bandCount) (h4 : f.bandCount ≤ 4) (h0 : f.starts.get 0 = 0) :
    (heldStarts f).head? = some 0 := by
  rw [List.head?_eq_getElem?, heldStarts_get? h4]
  exact ⟨0, rfl, h1, h0⟩

/-- No start is bad when `bad` holds of none. -/
theorem firstStart_none {bad : Nat → Bool} {l : List Nat} (h : ∀ x ∈ l, bad x = false) :
    ∀ i, firstStart bad i l = none := by
  induction l with
  | nil => exact fun _ => rfl
  | cons x rest ih =>
    intro i
    rw [firstStart, h x (by simp), if_neg Bool.false_ne_true]
    exact ih (fun y hy => h y (by simp [hy])) (i + 1)

/-- Starts pass the check of their order just when they ascend strictly. -/
theorem firstNotAscending_none {l : List Nat} : ∀ i, firstNotAscending i l = none ↔ l.IsChain (· < ·) := by
  induction l with
  | nil => simp [firstNotAscending]
  | cons x rest ih =>
    intro i
    cases rest with
    | nil => simp [firstNotAscending]
    | cons y rest =>
      rw [firstNotAscending, List.isChain_cons_cons]
      split
      · next h => simp [ih (i + 1), h]
      · next h => simp [h]

/-- The starts held ascend just when those of the bands below the band count do. -/
theorem heldStarts_ascend (h4 : f.bandCount ≤ 4) : (heldStarts f).IsChain (· < ·) ↔
    ∀ i j : Fin 4, i < j → j.val < f.bandCount → f.starts.get i < f.starts.get j := by
  rw [List.isChain_iff_pairwise, List.pairwise_iff_getElem]
  have at_get (k : Fin 4) (hk : k.val < (heldStarts f).length) (hb : k.val < f.bandCount) :
      (heldStarts f)[k.val] = f.starts.get k := by
    have := (heldStarts_get? h4 k.val _).mpr ⟨k, rfl, hb, rfl⟩
    rw [List.getElem?_eq_getElem hk] at this
    exact Option.some.inj this
  have length : (heldStarts f).length = f.bandCount := by
    simp [heldStarts, f.starts.size, h4]
  constructor
  · intro h i j hij hj
    have hij : i.val < j.val := hij
    have := h i.val j.val (by omega) (by omega) hij
    rwa [at_get i _ (by omega), at_get j _ hj] at this
  · intro h i j hi hj hij
    have lt := h ⟨i, by omega⟩ ⟨j, by omega⟩ hij (by simp; omega)
    rwa [← at_get ⟨i, _⟩ hi (by simp; omega), ← at_get ⟨j, _⟩ hj (by simp; omega)] at lt

/-! ### The judgement (R144) -/

theorem bandCount_good (h1 : 1 ≤ f.bandCount) (h4 : f.bandCount ≤ 4) :
    (f.bandCount < 1 || 4 < f.bandCount : Bool) = false := by simp; omega

theorem heldStarts_inDay (h4 : f.bandCount ≤ 4)
    (hs : ∀ i : Fin 4, i.val < f.bandCount → f.starts.get i ≤ 86399) :
    ∀ x ∈ heldStarts f, decide (86399 < x) = false := by
  intro x hx
  obtain ⟨i, hi⟩ := List.mem_iff_getElem?.mp hx
  obtain ⟨k, rfl, hk, rfl⟩ := (heldStarts_get? h4 i x).mp hi
  simpa using hs k hk

theorem highRate_none (h : ∀ k b : Fin 4, (f.rates.get k).get b ≤ 4095) : highRate f = none := by
  rw [highRate, List.find?_eq_none]
  rintro ⟨k, b⟩ -
  simpa using h k b

theorem highFee_none (h : ∀ k : Fin 4, f.fees.get k ≤ 4095) :
    (allMountKinds.find? fun k => decide (4095 < f.fees.get (mountKindIndex k))) = none := by
  rw [List.find?_eq_none]
  intro k _
  simpa using h (mountKindIndex k)

section
variable (h1 : 1 ≤ f.bandCount) (h4 : f.bandCount ≤ 4) (h0 : f.starts.get 0 = 0)
  (hs : ∀ i : Fin 4, i.val < f.bandCount → f.starts.get i ≤ 86399)
include h1 h4 h0 hs

/-- Starts in range pass every check before that of their order. -/
theorem judgeTariff_descending {i : Nat} (h : firstNotAscending 0 (heldStarts f) = some i) :
    judgeTariff f = some (.start i, .notAscending) := by
  simp only [judgeTariff, bandCount_good h1 h4, heldStarts_head h1 h4 h0,
    firstStart_none (heldStarts_inDay h4 hs), h, Bool.false_eq_true, if_false, ne_eq, not_true_eq_false]

theorem judgeTariff_none (h : firstNotAscending 0 (heldStarts f) = none)
    (hr : ∀ k b : Fin 4, (f.rates.get k).get b ≤ 4095) (hf : ∀ k : Fin 4, f.fees.get k ≤ 4095) :
    judgeTariff f = none := by
  simp only [judgeTariff, bandCount_good h1 h4, heldStarts_head h1 h4 h0,
    firstStart_none (heldStarts_inDay h4 hs), h, highRate_none hr, highFee_none hf, Bool.false_eq_true, if_false,
    ne_eq, not_true_eq_false, Option.map_none]

end

/-- Settles O29, by the first check that fails. -/
theorem tariffLoaded : Obligations.TariffLoaded := by
  intro s l tag f hp h1 h4 h0 hs copy
  refine ⟨fun ascends rates fees => ?_, fun ⟨i, j, hij, hj, hle⟩ => ?_⟩
  · have ordered : firstNotAscending 0 (heldStarts f) = none :=
      (firstNotAscending_none 0).mpr ((heldStarts_ascend h4).mpr ascends)
    have judged := judgeTariff_none h1 h4 h0 hs ordered rates fees
    refine ⟨_, exec_loadTariff_taken tag hp judged, ?_, fun hm => ?_, fun hm => ?_⟩
    · split <;> exact unchangedBut_accounting
    · rw [if_pos hm]
      exact ⟨rfl, rfl⟩
    · rw [if_neg hm]
      exact ⟨rfl, rfl⟩
  · cases ordered : firstNotAscending 0 (heldStarts f) with
    | none =>
      have ascends := (heldStarts_ascend h4).mp ((firstNotAscending_none 0).mp ordered) i j hij hj
      omega
    | some k => exact ⟨k, exec_loadTariff_refused tag hp (judgeTariff_descending h1 h4 h0 hs ordered)⟩

end Sys2Proof.ClockTariff
end

section
/-!
O33 and O34: the frames that set the clock and its closes (R133, R136, R138 to R141).
-/

namespace Sys2Proof.ClockTariff

open Machine DriveString

variable {s : State}

theorem unchangedBut_clock {c : Clock} {fs : List Sent} :
    unchangedBut [.clock] s { s with clock := c, sent := fs } := by
  refine ⟨fun b hb => ?_, rfl, rfl⟩
  cases b <;> first
    | exact absurd (by decide) hb
    | rfl

/-! ### SET_CLOCK and ROUND_CLOCK (R138, R139) -/

theorem exec_setClock {l : Link} (tag day second : Nat) (hp : permits s l) :
    exec (.setClock l tag day second) s = .next (if 86399 < second then
      afterSending [response l tag .setClock (.tableRejectReason .badField)] s
    else { s with
      clock := { s.clock with
        state := .running, day := day % 65536, second := second, tick := 0, ticksToDrop := 0 }
      sent := s.sent ++ [response l tag .setClock (.acceptedTime (day % 65536) second)] }) := by
  change execSetClock l tag day second s = _
  rw [execSetClock, managed_permitted s l tag _ _ hp]
  rfl

theorem exec_roundClock {l : Link} (tag : Nat) (hp : permits s l) :
    exec (.roundClock l tag) s = .next (if s.clock.state = .notSet then
      afterSending [response l tag .roundClock .notRunning] s
    else { s with
      clock := s.clock.rounded
      sent := s.sent ++ [response l tag .roundClock (.acceptedTime s.clock.rounded.day s.clock.rounded.second)] }) := by
  change execRoundClock l tag s = _
  rw [execRoundClock, managed_permitted s l tag _ _ hp]
  rfl

/-- A clock within its day, at the nearest whole minute: only the last half minute carries into the next day
(R139). -/
theorem rounded_eq {c : Clock} (h : c.second ≤ 86399) : c.rounded = { c with
    tick := 0, ticksToDrop := 0
    second :=
      if c.second % 60 < 30 then c.second - c.second % 60
      else if 86370 ≤ c.second then 0
      else c.second - c.second % 60 + 60
    day := if 86370 ≤ c.second then (c.day + 1) % 65536 else c.day } := by
  have minute : c.second / 60 * 60 = c.second - c.second % 60 := by omega
  have past : c.second - (c.second - c.second % 60) = c.second % 60 := by omega
  simp only [Clock.rounded, minuteStart, minute, past]
  by_cases back : c.second % 60 < 30
  · rw [if_pos back, if_pos back, if_neg (by omega)]
  · rw [if_neg back, if_neg back]
    by_cases carries : 86370 ≤ c.second
    · rw [if_pos (by omega), if_pos carries, if_pos carries]
    · rw [if_neg (by omega), if_neg carries, if_neg carries]

/-- Settles O33: SET_CLOCK by its range check, ROUND_CLOCK by the state of the clock. -/
theorem clockSetOrRounded : Obligations.ClockSetOrRounded := by
  intro s l tag hp
  have round := exec_roundClock tag hp
  refine ⟨fun day second hd => ⟨fun hs => ?_, fun hs => ?_⟩, fun hr hs => ?_, fun hn => ?_⟩
  · have answer := exec_setClock tag day second hp
    rw [if_neg (by omega), Nat.mod_eq_of_lt (by omega)] at answer
    exact ⟨_, answer, rfl, unchangedBut_clock, rfl⟩
  · rw [exec_setClock tag day second hp, if_pos hs]
  · rw [if_neg (by simp [hr])] at round
    exact ⟨_, round, rounded_eq hs, unchangedBut_clock, rfl⟩
  · rw [round, if_pos hn]

/-! ### ADJUST_CLOCK and SET_CLOSE (R136, R141) -/

theorem exec_adjustClock {l : Link} (tag : Nat) (c : Int) (hp : permits s l) :
    exec (.adjustClock l tag c) s = .next { s with
      clock := { s.clock with compensation := max (-127) (min 127 c) }
      sent := s.sent ++ [response l tag .adjustClock (.acceptedCompensation (max (-127) (min 127 c)))] } := by
  change execAdjustClock l tag c s = _
  rw [execAdjustClock, managed_permitted s l tag _ _ hp]
  rfl

/-- A SET_CLOSE is refused: a time beyond the day, or SHIFTS without a time. -/
def badClose (m : CloseMode) (times : List Nat) : Prop :=
  (∃ x ∈ times, 86399 < x) ∨ m = .shifts ∧ times = []

theorem exec_setClose_refused {l : Link} (tag : Nat) {m : CloseMode} {times : List Nat} (hp : permits s l)
    (h : badClose m times) : exec (.setClose l tag m times) s =
      .next (afterSending [response l tag .setClose (.tableRejectReason .badField)] s) := by
  have bad : ((times.any fun t => decide (86399 < t)) || (m = CloseMode.shifts && times.isEmpty)) = true := by
    simpa [badClose] using h
  change execSetClose l tag m times s = _
  rw [execSetClose, managed_permitted s l tag _ _ hp]
  simp only [bad, if_true]
  rfl

theorem exec_setClose_taken {l : Link} (tag : Nat) {m : CloseMode} {times : List Nat} (hp : permits s l)
    (h : ¬badClose m times) : exec (.setClose l tag m times) s = .next { s with
      clock := { s.clock with
        closeMode := m, shiftTimes := if m = CloseMode.shifts then shiftSet (times.take 3) else [] }
      sent := s.sent ++ [response l tag .setClose .accepted] } := by
  have good : ((times.any fun t => decide (86399 < t)) || (m = CloseMode.shifts && times.isEmpty)) = false := by
    rw [← Bool.not_eq_true]
    simpa [badClose] using h
  change execSetClose l tag m times s = _
  rw [execSetClose, managed_permitted s l tag _ _ hp]
  simp only [good, Bool.false_eq_true, if_false]
  rfl

theorem mem_insertTime (t x : Nat) (l : List Nat) : x ∈ insertTime t l ↔ x = t ∨ x ∈ l := by
  induction l with
  | nil => simp [insertTime]
  | cons u rest ih =>
    unfold insertTime
    split
    · simp
    · split
      · next h => simp [h]
      · simp [ih, or_left_comm]

/-- A time put into an ascending list leaves it ascending. -/
theorem insertTime_ascends (t : Nat) {l : List Nat} (h : l.Pairwise (· < ·)) :
    (insertTime t l).Pairwise (· < ·) := by
  induction l with
  | nil => simp [insertTime]
  | cons u rest ih =>
    obtain ⟨first, later⟩ := List.pairwise_cons.mp h
    unfold insertTime
    split
    · next lt =>
      refine List.pairwise_cons.mpr ⟨fun x hx => ?_, h⟩
      rcases List.mem_cons.mp hx with rfl | hx
      · exact lt
      · exact lt.trans (first x hx)
    · split
      · exact h
      · next ge ne =>
        refine List.pairwise_cons.mpr ⟨fun x hx => ?_, ih later⟩
        rcases (mem_insertTime t x rest).mp hx with rfl | hx
        · omega
        · exact first x hx

theorem mem_shiftSet (x : Nat) (l : List Nat) : x ∈ shiftSet l ↔ x ∈ l := by
  induction l with
  | nil => simp [shiftSet]
  | cons t rest ih =>
    change x ∈ insertTime t (shiftSet rest) ↔ _
    rw [mem_insertTime, ih, List.mem_cons]

theorem shiftSet_ascends (l : List Nat) : (shiftSet l).Pairwise (· < ·) := by
  induction l with
  | nil => exact .nil
  | cons t rest ih => exact insertTime_ascends t ih

theorem shiftSet_nodup (l : List Nat) : (shiftSet l).Nodup := (shiftSet_ascends l).imp Nat.ne_of_lt

/-- Settles O34: the clamp of the compensation, and SET_CLOSE by its check. -/
theorem clockTrimmedAndCloseSet : Obligations.ClockTrimmedAndCloseSet := by
  intro s l tag hp
  refine ⟨fun c low high => ?_, fun m times few inDay given => ?_,
    fun m times bad => exec_setClose_refused tag hp bad⟩
  · have clamped : max (-127) (min 127 c) = if c = -128 then -127 else c := by split <;> omega
    have answer := exec_adjustClock tag c hp
    rw [clamped] at answer
    exact ⟨_, answer, rfl, unchangedBut_clock, rfl⟩
  · have good : ¬badClose m times := by
      rintro (⟨x, hx, late⟩ | ⟨hm, none⟩)
      · exact absurd (inDay x hx) (by omega)
      · exact given hm none
    have answer := exec_setClose_taken tag hp good
    rw [List.take_of_length_le few] at answer
    refine ⟨_, answer, rfl, ?_, fun x => ?_, unchangedBut_clock, rfl⟩
    · change (if m = CloseMode.shifts then shiftSet times else []).Nodup
      split
      · exact shiftSet_nodup times
      · exact .nil
    · change x ∈ (if m = CloseMode.shifts then shiftSet times else []) ↔ _
      split
      · next hm => simp [mem_shiftSet, hm]
      · next hm => simp [hm]

end Sys2Proof.ClockTariff
end

section
/-!
SUPPORT. What a second's accrual does, drive by drive and account by account (R143, R148).
-/

namespace Sys2Proof.ClockTariff

open Machine DriveString

variable {s : State}

/-! ### Steps over all drives -/

theorem mem_allDrives (d : DriveId) : d ∈ allDrives := by fin_cases d <;> decide

theorem allDrives_nodup : allDrives.Nodup := by decide

section
variable {f : State → DriveId → State}

theorem foldl_drive {P : State → Prop} {g : Drive → Drive} (hP : ∀ s d, P s → P (f s d))
    (h : ∀ s, P s → ∀ d c, (f s d).drive c = if c = d then g (s.drive c) else s.drive c)
    {l : List DriveId} (nodup : l.Nodup) {s : State} (hs : P s) (c : DriveId) :
    (l.foldl f s).drive c = if c ∈ l then g (s.drive c) else s.drive c := by
  induction l generalizing s with
  | nil => rfl
  | cons d rest ih =>
    obtain ⟨fresh, nodup⟩ := List.nodup_cons.mp nodup
    rw [List.foldl_cons, ih nodup (hP s d hs), h s hs]
    by_cases hc : c = d
    · subst hc
      rw [if_neg fresh, if_pos rfl, if_pos List.mem_cons_self]
    · simp [hc]

/-- Steps that each change their own drive alone, in one way, change every drive that way. -/
theorem foldl_allDrives_drive {P : State → Prop} {g : Drive → Drive} (hP : ∀ s d, P s → P (f s d))
    (h : ∀ s, P s → ∀ d c, (f s d).drive c = if c = d then g (s.drive c) else s.drive c) (hs : P s)
    (c : DriveId) : (allDrives.foldl f s).drive c = g (s.drive c) := by
  rw [foldl_drive hP h allDrives_nodup hs c, if_pos (mem_allDrives c)]

/-- Steps that do nothing at a drive without an occupancy do nothing at all when none is open. -/
theorem foldl_unoccupied (skip : ∀ s d, (s.drive d).occupancy = none → f s d = s) {l : List DriveId}
    (h : ∀ d ∈ l, (s.drive d).occupancy = none) : l.foldl f s = s := by
  induction l with
  | nil => rfl
  | cons d rest ih =>
    rw [List.foldl_cons, skip s d (h d List.mem_cons_self)]
    exact ih fun c hc => h c (List.mem_cons_of_mem d hc)

/-- With one occupancy open only the step at its drive does anything. -/
theorem foldl_lone (skip : ∀ s d, (s.drive d).occupancy = none → f s d = s) {d : DriveId}
    (others : ∀ c, c ≠ d → (f s d).drive c = s.drive c) (lone : ∀ c, c ≠ d → (s.drive c).occupancy = none) :
    allDrives.foldl f s = f s d := by
  obtain ⟨before, after, split⟩ := List.append_of_mem (mem_allDrives d)
  have nodup := allDrives_nodup
  rw [split, List.nodup_middle, List.nodup_cons, List.mem_append, not_or] at nodup
  obtain ⟨⟨notBefore, notAfter⟩, -⟩ := nodup
  rw [split, List.foldl_append, List.foldl_cons,
    foldl_unoccupied skip fun c hc => lone c fun e => notBefore (e ▸ hc)]
  refine foldl_unoccupied skip fun c hc => ?_
  have ne : c ≠ d := fun e => notAfter (e ▸ hc)
  rw [others c ne]
  exact lone c ne

end

/-! ### An occupancy's second -/

theorem countSecond_get (bands : Bank Nat 4) (band : Nat) (b : Fin 4) : (countSecond bands band).get b =
    if b.val = band then min 16777215 (bands.get b + 1) else bands.get b := by
  unfold countSecond inRange
  by_cases h : band < 4
  · rw [dif_pos h]
    by_cases hb : b = ⟨band, h⟩
    · subst hb
      rw [if_pos rfl]
      exact Bank.get_set_self _ _ _
    · rw [if_neg fun e => hb (Fin.ext e)]
      exact Bank.get_set_ne _ _ _ _ (Ne.symm hb)
  · rw [dif_neg h, if_neg (by omega)]

theorem accrue_eq (o : Occupancy) (band : Nat) : o.accrue band = { o with
    graceLeft := o.graceLeft - 1, bandSeconds := (o.accrue band).bandSeconds } := by
  unfold Occupancy.accrue
  split
  · rfl
  · next h => rw [show o.graceLeft - 1 = o.graceLeft by omega]

/-- A second counts in its band once the grace is spent (R148). -/
theorem accrue_bands (o : Occupancy) (band : Nat) (b : Fin 4) : (o.accrue band).bandSeconds.get b =
    if o.graceLeft = 0 ∧ b.val = band then min 16777215 (o.bandSeconds.get b + 1) else o.bandSeconds.get b := by
  unfold Occupancy.accrue
  split
  · next h => rw [if_neg fun e => by omega]
  · next h =>
    rw [countSecond_get]
    simp only [show o.graceLeft = 0 by omega, true_and]

/-! ### One drive -/

/-- A drive after a second in this band. -/
def accruedDrive (band : Nat) (e : Drive) : Drive :=
  { e with occupancy := e.occupancy.map fun o => o.accrue band }

/-- The account that pays for a drive's open occupancy. -/
def payer (s : State) (d : DriveId) : Option AccountId := (s.drive d).occupancy.map Occupancy.account

/-- An account after one more counted period second. -/
def secondCounted (e : Account) : Account :=
  { e with live := { e.live with periodSeconds := saturate max32 (e.live.periodSeconds + 1) } }

theorem updateDrive_get (d c : DriveId) (g : Drive → Drive) :
    (s.updateDrive d g).drive c = if c = d then g (s.drive c) else s.drive c := by
  by_cases h : c = d
  · subst h; simp
  · rw [if_neg h, updateDrive_drive_ne _ _ _ _ (Ne.symm h)]

theorem updateAccount_get (a k : AccountId) (g : Account → Account) :
    (s.updateAccount a g).accounting.accounts.get k =
      if k = a then g (s.accounting.accounts.get k) else s.accounting.accounts.get k := by
  by_cases h : k = a
  · subst h
    rw [if_pos rfl]
    exact Bank.get_set_self _ _ _
  · rw [if_neg h]
    exact Bank.get_set_ne _ _ _ _ (Ne.symm h)

theorem accrueDrive_none {n : Nat} {d : DriveId} (h : (s.drive d).occupancy = none) : s.accrueDrive n d = s := by
  simp only [State.accrueDrive, h]

theorem accrueDrive_some {n : Nat} {d : DriveId} {o : Occupancy} (h : (s.drive d).occupancy = some o) :
    s.accrueDrive n d = (s.updateDrive d (accruedDrive (s.accounting.active.band n))).updateAccount o.account
      secondCounted := by
  have entry : { s.drive d with occupancy := some (o.accrue (s.accounting.active.band n)) } =
      accruedDrive (s.accounting.active.band n) (s.drive d) := by rw [accruedDrive, h, Option.map_some]
  simp only [State.accrueDrive, h, State.updateDrive, Bank.update]
  rw [show s.drives.get d = s.drive d from rfl, entry]
  rfl

theorem accruedDrive_none {e : Drive} (band : Nat) (h : e.occupancy = none) : accruedDrive band e = e := by
  rw [accruedDrive, h, Option.map_none, ← h]

theorem accrueDrive_drive (n : Nat) (d c : DriveId) : (s.accrueDrive n d).drive c =
    if c = d then accruedDrive (s.accounting.active.band n) (s.drive c) else s.drive c := by
  cases h : (s.drive d).occupancy with
  | none =>
    rw [accrueDrive_none h]
    split
    · next e => rw [accruedDrive_none _ (e ▸ h)]
    · rfl
  | some o => rw [accrueDrive_some h]; exact updateDrive_get d c _

theorem accrueDrive_accounting (n : Nat) (d : DriveId) : (s.accrueDrive n d).accounting =
    { s.accounting with accounts := (s.accrueDrive n d).accounting.accounts } := by
  cases h : (s.drive d).occupancy with
  | none => rw [accrueDrive_none h]
  | some o => rw [accrueDrive_some h]; rfl

theorem accrueDrive_account (n : Nat) (d : DriveId) (a : AccountId) :
    (s.accrueDrive n d).accounting.accounts.get a =
      if payer s d = some a then secondCounted (s.accounting.accounts.get a) else s.accounting.accounts.get a := by
  cases h : (s.drive d).occupancy with
  | none => rw [accrueDrive_none h]; simp [payer, h]
  | some o =>
    rw [accrueDrive_some h]
    refine (updateAccount_get o.account a _).trans ?_
    simp [payer, h, eq_comm]

theorem accrueDrive_payer (n : Nat) (d c : DriveId) : payer (s.accrueDrive n d) c = payer s c := by
  unfold payer
  rw [accrueDrive_drive]
  split
  · simp only [accruedDrive, Option.map_map]
    congr 1
    funext o
    exact (congrArg Occupancy.account (accrue_eq o _) :)
  · rfl

/-! ### The whole second -/

theorem accrue_accounting (n : Nat) :
    (s.accrue n).accounting = { s.accounting with accounts := (s.accrue n).accounting.accounts } := by
  unfold State.accrue
  induction allDrives generalizing s with
  | nil => rfl
  | cons d rest ih => rw [List.foldl_cons, ih, accrueDrive_accounting]

theorem accrue_drive (n : Nat) (d : DriveId) :
    (s.accrue n).drive d = accruedDrive (s.accounting.active.band n) (s.drive d) := by
  unfold State.accrue
  refine foldl_allDrives_drive (P := fun u => u.accounting.active = s.accounting.active) (fun u c h => ?_)
    (fun u h c k => ?_) rfl d
  · rw [accrueDrive_accounting]; exact h
  · rw [accrueDrive_drive, h]

/-- An account counts a period second for each open occupancy on it (R148). -/
theorem accrue_account (n : Nat) (a : AccountId) : (s.accrue n).accounting.accounts.get a =
    secondCounted^[allDrives.countP fun d => payer s d = some a] (s.accounting.accounts.get a) := by
  unfold State.accrue
  induction allDrives generalizing s with
  | nil => rfl
  | cons d rest ih =>
    rw [List.foldl_cons, ih, accrueDrive_account, List.countP_cons]
    simp only [accrueDrive_payer]
    by_cases h : payer s d = some a <;> simp [h]

theorem accrue_account_unnamed (n : Nat) {a : AccountId} (h : ∀ d, payer s d ≠ some a) :
    (s.accrue n).accounting.accounts.get a = s.accounting.accounts.get a := by
  rw [accrue_account, List.countP_eq_zero.mpr fun d _ => by simpa using h d]
  rfl

theorem accrue_account_lone (n : Nat) {a : AccountId} {d : DriveId} (hd : payer s d = some a)
    (lone : ∀ c, c ≠ d → payer s c ≠ some a) :
    (s.accrue n).accounting.accounts.get a = secondCounted (s.accounting.accounts.get a) := by
  have one : (allDrives.countP fun c => payer s c = some a) = allDrives.count d := by
    refine List.countP_congr fun c _ => ?_
    by_cases h : c = d
    · simp [h, hd]
    · simp [h, lone c h]
  rw [accrue_account, one, List.count_eq_one_of_mem allDrives_nodup (mem_allDrives d)]
  rfl

/-- A second's accrual leaves an account's closed slot, code and allowance. -/
theorem accrue_account_live (n : Nat) (a : AccountId) : (s.accrue n).accounting.accounts.get a =
    { s.accounting.accounts.get a with live := ((s.accrue n).accounting.accounts.get a).live } := by
  rw [accrue_account]
  generalize List.countP _ allDrives = k
  induction k with
  | zero => rfl
  | succ k ih => rw [Function.iterate_succ_apply', secondCounted, ih]

end Sys2Proof.ClockTariff
end

section
/-!
SUPPORT. A second advance of the clock: what it counts before its close, and what a carry makes of it
(R134, R135, R141, R148).
-/

namespace Sys2Proof.ClockTariff

open Machine DriveString

variable {s : State}

/-! ### The second that an advance counts (R134) -/

theorem nextSecond_eq (c : Clock) : c.nextSecond = { c with
    second := if c.second = 86399 then 0 else c.second + 1
    day := if c.second = 86399 then (c.day + 1) % 65536 else c.day } := by
  unfold Clock.nextSecond
  split <;> rfl

theorem closes_nextSecond (c : Clock) (n : Nat) : c.nextSecond.closes n = c.closes n := by
  rw [nextSecond_eq]
  rfl

/-- The clock moves on by a second, and an hour lowers the error counts. -/
def secondPassed (u : State) : State :=
  if u.clock.nextSecond.second % 3600 = 0 then
    { u with clock := u.clock.nextSecond, drives := u.drives.map Drive.hour }
  else { u with clock := u.clock.nextSecond }

theorem secondPassed_same : secondPassed s =
    { s with drives := (secondPassed s).drives, clock := s.clock.nextSecond } := by
  unfold secondPassed
  split <;> rfl

theorem hour_same (e : Drive) : Drive.hour e = { e with errorCount := (Drive.hour e).errorCount } := by
  unfold Drive.hour
  split <;> rfl

theorem secondPassed_drive (d : DriveId) : (secondPassed s).drive d =
    { s.drive d with errorCount := ((secondPassed s).drive d).errorCount } := by
  unfold secondPassed
  split
  · have hour : (s.drives.map Drive.hour).get d = Drive.hour (s.drive d) := Bank.get_map _ _ _
    change (s.drives.map Drive.hour).get d =
      { s.drive d with errorCount := ((s.drives.map Drive.hour).get d).errorCount }
    rw [hour]
    exact hour_same _
  · rfl

theorem advanced_closes : advanced s =
    if s.clock.closes s.clock.nextSecond.second then (secondPassed s).periodClose else secondPassed s := by
  rw [← closes_nextSecond]
  unfold advanced secondPassed
  dsimp only
  split <;> rfl

/-- An advance up to its close: the second's accrual, the clock's next second, and the hour's lowering of error
counts. -/
def counted (s : State) : State := secondPassed (s.accrue s.clock.second)

theorem accrue_clock (n : Nat) : (s.accrue n).clock = s.clock := by rw [(accrue_accrued n).same]

theorem advanceOnce_counted : s.advanceOnce =
    if s.clock.closes s.clock.nextSecond.second then (counted s).periodClose else counted s := by
  rw [advanceOnce_eq, advanced_closes, accrue_clock, counted]

theorem counted_accounting : (counted s).accounting = (s.accrue s.clock.second).accounting := by
  rw [counted, secondPassed_same]

theorem counted_same : counted s = { s with
    drives := (counted s).drives, accounting := (counted s).accounting, clock := s.clock.nextSecond } := by
  have same := (accrue_accrued (s := s) s.clock.second).same
  unfold counted
  generalize s.accrue s.clock.second = u at same
  have clock : u.clock = s.clock := by rw [same]
  rw [secondPassed_same, clock]
  rw [same]

theorem counted_clock : (counted s).clock = s.clock.nextSecond := by rw [counted_same]

/-- An advance counts a second of each open occupancy, and changes nothing else of a drive but its error count. -/
theorem counted_drive (d : DriveId) : (counted s).drive d =
    { accruedDrive (s.accounting.active.band s.clock.second) (s.drive d) with
      errorCount := ((counted s).drive d).errorCount } := by
  have entry := accrue_drive (s := s) s.clock.second d
  rw [← entry]
  exact secondPassed_drive d

theorem counted_occupancy (d : DriveId) : ((counted s).drive d).occupancy =
    (s.drive d).occupancy.map fun o => o.accrue (s.accounting.active.band s.clock.second) := by
  rw [counted_drive]
  rfl

theorem unchangedBut_counted : unchangedBut (aftermath ++ [.clock, .accounting]) s (counted s) := by
  rw [counted_same]
  refine ⟨fun b hb => ?_, rfl, rfl⟩
  cases b <;> first
    | exact absurd (by decide) hb
    | rfl

theorem advanceOnce_manual_counted (h : s.clock.closeMode = .manual) : s.advanceOnce = counted s := by
  have stays (n : Nat) : s.clock.closes n = false := by simp [Clock.closes, h]
  rw [advanceOnce_counted, stays, if_neg Bool.false_ne_true]

/-! ### A carry (R134, R135) -/

/-- A state whose tick count starts afresh. -/
def tickZeroed (s : State) : State := { s with clock := { s.clock with tick := 0 } }

theorem carry_tickZeroed : s.carry = hourly (tickZeroed s).advanceOnce := carry_eq

/-- Within the hour a carry is an advance. -/
theorem carry_minute (h : (tickZeroed s).advanceOnce.clock.second % 3600 ≠ 0) :
    s.carry = (tickZeroed s).advanceOnce := by
  rw [carry_tickZeroed, hourly, if_neg h]

/-- Within the hour, and with no close raised, a carry counts a second. -/
theorem carry_counted (manual : s.clock.closeMode = .manual) (h : (s.clock.second + 1) % 3600 ≠ 0) :
    s.carry = counted (tickZeroed s) := by
  have within : s.clock.second ≠ 86399 := by omega
  have advance := advanceOnce_manual_counted (s := tickZeroed s) manual
  rw [carry_minute, advance]
  rw [advance, counted_clock, nextSecond_eq]
  change (if s.clock.second = 86399 then 0 else s.clock.second + 1) % 3600 ≠ 0
  rwa [if_neg within]

/-! ### The timers lowered up to the carry (R134) -/

/-- The part's timers have run up to the tick that carries, and the clock's tick count starts afresh. -/
def atCarry (s : State) : State :=
  { s.lowerTimers s.clock.ticksToCarry with clock := { s.clock with tick := 0, ticksToDrop := 0 } }

theorem lowerTimers_drive (n : Nat) (d : DriveId) : (s.lowerTimers n).drive d = (s.drive d).lowerTimers n :=
  Bank.get_map _ _ _

theorem atCarry_drive (d : DriveId) : (atCarry s).drive d = (s.drive d).lowerTimers s.clock.ticksToCarry :=
  lowerTimers_drive _ d

theorem atCarry_payer (d : DriveId) : payer (atCarry s) d = payer s d := by
  rw [payer, atCarry_drive]
  rfl

theorem unchangedBut_atCarry : unchangedBut (aftermath ++ [.clock, .accounting]) s (atCarry s) :=
  unchangedBut_advanced

end Sys2Proof.ClockTariff
end

section
/-!
O35 and O38: a second advance within the hour, and the tick of the time base (R133, R134, R143, R148).
-/

namespace Sys2Proof.ClockTariff

open Machine DriveString

variable {s : State}

section
variable {X : Nat → Prop} {g o : Prop} {u v : State}

theorem calm_occupancy (h : Calm X g o u v) (d : DriveId) : (v.drive d).occupancy = (u.drive d).occupancy :=
  (congrArg Drive.occupancy (h.drive d).same :)

theorem calm_errorCount (h : Calm X g o u v) (d : DriveId) : (v.drive d).errorCount = (u.drive d).errorCount :=
  (congrArg Drive.errorCount (h.drive d).same :)

end

/-! ### SECOND_ADVANCE within the hour -/

/-- Settles O35: the advance counts a second, and what follows the event leaves what was counted. -/
theorem secondAdvanced : Obligations.SecondAdvanced := by
  intro s running inDay within manual
  have answer := exec_secondAdvance running
  have carried := carry_counted (s := { s.lowerTimers s.clock.ticksToCarry with
    clock := { s.clock with ticksToDrop := 0 } }) manual within
  rw [carried] at answer
  change exec .secondAdvance s = .next (State.finish s (counted (atCarry s))) at answer
  have calm : Calm AnyJob True True (counted (atCarry s)) (State.finish s (counted (atCarry s))) :=
    finish_calm_any _ s
  have clock : (State.finish s (counted (atCarry s))).clock = (atCarry s).clock.nextSecond := by
    rw [finish_clock, counted_clock]
  have accounting := finish_accounting (counted (atCarry s)) s
  rw [counted_accounting] at accounting
  generalize State.finish s (counted (atCarry s)) = t at answer calm clock accounting
  have occupancy (d : DriveId) : (t.drive d).occupancy =
      (s.drive d).occupancy.map fun o => o.accrue (s.accounting.active.band s.clock.second) := by
    rw [calm_occupancy calm, counted_occupancy, atCarry_drive]
    rfl
  have errors (d : DriveId) : (t.drive d).errorCount = (s.drive d).errorCount := by
    have counts := ((advanceOnce_manual (s := atCarry s) manual).2 d).2
    rw [advanceOnce_manual_counted (s := atCarry s) manual, nextSecond_eq, atCarry_drive] at counts
    rw [calm_errorCount calm, counts]
    change hourCount (decide ((if s.clock.second = 86399 then 0 else s.clock.second + 1) % 3600 = 0)) _ = _
    rw [if_neg (by omega), decide_eq_false within]
    rfl
  refine ⟨t, answer, ?_, fun d hd => ?_, fun d o hd => ⟨o.accrue _, ?_, accrue_eq o _, accrue_bands o _⟩,
    fun a ha => ?_, fun d o hd lone => ?_, ?_, fun d => ⟨?_, errors d⟩, ?_⟩
  · rw [clock, nextSecond_eq]
    change { s.clock with
      tick := 0, ticksToDrop := 0, second := if s.clock.second = 86399 then 0 else s.clock.second + 1
      day := if s.clock.second = 86399 then (s.clock.day + 1) % 65536 else s.clock.day } = _
    rw [if_neg (by omega), if_neg (by omega)]
  · rw [occupancy, hd, Option.map_none]
  · rw [occupancy, hd, Option.map_some]
  · rw [accounting]
    refine accrue_account_unnamed (s := atCarry s) _ fun d hd => ?_
    rw [atCarry_payer] at hd
    obtain ⟨o, ho, named⟩ := Option.map_eq_some_iff.mp hd
    exact ha d o ho named
  · rw [accounting]
    refine congrArg (fun e : Account => e.live.periodSeconds)
      (accrue_account_lone (s := atCarry s) (a := o.account) (d := d) _ ?_ fun c hc named => ?_)
    · rw [atCarry_payer, payer, hd, Option.map_some]
    · rw [atCarry_payer] at named
      obtain ⟨o', ho', named⟩ := Option.map_eq_some_iff.mp named
      exact lone c o' hc ho' named
  · rw [accounting]
    exact accrue_accounting (s := atCarry s) _
  · refine (calm.drive d).state.trans ?_
    rw [counted_drive, atCarry_drive]
    rfl
  · exact unchangedBut_trans (unchangedBut_trans unchangedBut_atCarry unchangedBut_counted)
      (unchangedBut_mono (unchangedBut_of_bare calm.bare) (by decide))

/-! ### TIME_BASE_TICK -/

theorem get?_map {α : Type} (t : Table α) (g : α → α) (n : Nat) :
    Table.get? (t.map fun e : Nat × α => (e.1, g e.2)) n = (t.get? n).map g := by
  induction t with
  | nil => rfl
  | cons e rest ih =>
    simp only [List.map_cons, Table.get?]
    split
    · rfl
    · exact ih

theorem lowerTimers_job (n m : Nat) : (s.lowerTimers n).job? m = (s.job? m).map (Job.lowerTimers n) := get?_map _ _ _

theorem lowerTimers_arm (n : Nat) (x : ArmId) : (s.lowerTimers n).arm x = (s.arm x).lowerTimers n := by
  cases x <;> rfl

theorem lowerTimers_prompt (n m : Nat) : (s.lowerTimers n).prompt? m = (s.prompt? m).map (Prompt.lowerTimers n) := by
  change (s.desk.prompts.map (Prompt.lowerTimers n)).find? _ = _
  rw [List.find?_map]
  rfl

/-- The timers have run one tick and the clock stands at `c`; nothing else has changed. -/
structure Ticked (c : Clock) (s t : State) : Prop where
  clock : t.clock = c
  sent : t.sent = s.sent
  unchanged : unchangedBut [.drives, .arms, .work, .desk, .clock] s t
  drive : ∀ d, t.drive d = { s.drive d with
    loadTimer := (s.drive d).loadTimer.lower 1, cleaningTimer := (s.drive d).cleaningTimer.lower 1 }
  arm : ∀ x, t.arm x = { s.arm x with supervision := (s.arm x).supervision.lower 1 }
  job : ∀ n, t.job? n = (s.job? n).map fun j => { j with aging := j.aging.lower 1 }
  prompt : ∀ n, t.prompt? n = (s.prompt? n).map fun p => { p with
    reminderTimer := p.reminderTimer.lower 1, limitTimer := p.limitTimer.lower 1
    deferTimers := p.deferTimers.map (Timer.lower 1) }

theorem ticked (c : Clock) : Ticked c s { s.lowerTimers 1 with clock := c } where
  clock := rfl
  sent := rfl
  unchanged := by
    refine ⟨fun b hb => ?_, rfl, rfl⟩
    cases b <;> first
      | exact absurd (by decide) hb
      | rfl
  drive := lowerTimers_drive 1
  arm x := (show State.arm { s.lowerTimers 1 with clock := c } x = (s.lowerTimers 1).arm x by cases x <;> rfl).trans
    (lowerTimers_arm 1 x)
  job := lowerTimers_job 1
  prompt := lowerTimers_prompt 1

/-- The clock after a tick that makes no second advance (R134). -/
def tickedClock (c : Clock) : Clock :=
  if c.state = .notSet then c
  else if 0 < c.ticksToDrop then { c with ticksToDrop := c.ticksToDrop - 1 }
  else { c with tick := c.tick + 1 }

/-- A tick makes no second advance unless a RUNNING clock with no tick to drop stands at its last tick. -/
def keepsSecond (c : Clock) : Prop := c.state = .notSet ∨ 0 < c.ticksToDrop ∨ c.tick < 63

theorem exec_timeBaseTick_keeps (h : keepsSecond s.clock) :
    exec .timeBaseTick s = .next { s.lowerTimers 1 with clock := tickedClock s.clock } := by
  change execTimeBaseTick s = _
  simp only [execTimeBaseTick, tickedClock]
  by_cases unset : s.clock.state = .notSet
  · simp only [if_pos unset]
    rfl
  · simp only [if_neg unset]
    by_cases drops : 0 < s.clock.ticksToDrop
    · simp only [if_pos drops]
    · simp only [if_neg drops]
      rw [if_pos ((h.resolve_left unset).resolve_left drops)]

theorem exec_timeBaseTick_carries (h : ¬keepsSecond s.clock) :
    exec .timeBaseTick s = .next (State.finish s (s.lowerTimers 1).carry) := by
  obtain ⟨set, drop, tick⟩ := not_or.mp h |>.imp_right not_or.mp
  change execTimeBaseTick s = _
  simp only [execTimeBaseTick, if_neg set, if_neg drop, if_neg tick]

/-- Settles O38, by whether the tick makes a second advance. -/
theorem timeBaseTicked : Obligations.TimeBaseTicked := by
  intro s
  refine ⟨?_, fun running drop tick inDay within manual => ?_⟩
  · by_cases keeps : keepsSecond s.clock
    · have after := ticked (s := s) (tickedClock s.clock)
      refine ⟨_, exec_timeBaseTick_keeps keeps, fun unset => ?_, fun running drop => ?_, fun running drop tick => ?_,
        fun _ => ⟨after.sent, after.unchanged, after.drive, after.arm, after.job, after.prompt⟩⟩
      · rw [after.clock, tickedClock, if_pos unset]
      · rw [after.clock, tickedClock, if_neg (by simp [running]), if_pos drop]
      · rw [after.clock, tickedClock, if_neg (by simp [running]), if_neg (by omega)]
    · obtain ⟨unset, drop, tick⟩ := not_or.mp keeps |>.imp_right not_or.mp
      exact ⟨_, exec_timeBaseTick_carries keeps, fun h => absurd h unset, fun _ h => absurd h drop,
        fun _ _ h => absurd h tick, fun h => absurd h keeps⟩
  · have carries : ¬keepsSecond s.clock := by
      rintro (h | h | h)
      · simp [running] at h
      · omega
      · omega
    refine ⟨_, exec_timeBaseTick_carries carries, ?_⟩
    rw [finish_clock, carry_counted (s := s.lowerTimers 1) manual within, counted_clock, nextSecond_eq]
    change { s.clock with
      tick := 0, second := if s.clock.second = 86399 then 0 else s.clock.second + 1
      day := if s.clock.second = 86399 then (s.clock.day + 1) % 65536 else s.clock.day } = _
    rw [if_neg (by omega), if_neg (by omega)]

end Sys2Proof.ClockTariff
end

section
/-!
SUPPORT. What a period close does, step by step: PARTIAL records, closed slots, the tariff swap and the event
(R155 to R157, R163, R164).
-/

namespace Sys2Proof.ClockTariff

open Machine DriveString OperatorPrompts

variable {s t u : State}

/-! ### Notices that keep their link and enables (R199) -/

/-- The notice link and every raise-enable stand. -/
structure EnablesKept (s t : State) : Prop where
  link : t.notices.link = s.notices.link
  raise : ∀ c, (t.notice c).raiseEnable = (s.notice c).raiseEnable

theorem EnablesKept.refl (s : State) : EnablesKept s s := ⟨rfl, fun _ => rfl⟩

theorem EnablesKept.trans (h : EnablesKept s t) (k : EnablesKept t u) : EnablesKept s u :=
  ⟨k.link.trans h.link, fun c => (k.raise c).trans (h.raise c)⟩

theorem updateNotice_enables (c : NoticeClass) (f : NoticeState → NoticeState)
    (h : ∀ n, (f n).raiseEnable = n.raiseEnable) : EnablesKept s (s.updateNotice c f) where
  link := rfl
  raise k := by
    by_cases e : noticeIndex k = noticeIndex c
    · simp only [State.notice, e]
      exact (congrArg NoticeState.raiseEnable (Bank.get_set_self _ _ _)).trans (h _)
    · exact congrArg NoticeState.raiseEnable (Bank.get_set_ne _ _ _ _ (Ne.symm e))

theorem sendNotice_enables (c : NoticeClass) (d : NoticeData) : EnablesKept s (s.sendNotice c d) where
  link := rfl
  raise := (updateNotice_enables (s := s) c (fun n => { n with pending := true }) fun _ => rfl).raise

theorem setLevel_enables (c : NoticeClass) (b : Bool) (d : NoticeData) : EnablesKept s (s.setLevel c b d) := by
  have level : EnablesKept s (s.updateNotice c fun n => { n with level := b }) :=
    updateNotice_enables c _ fun _ => rfl
  have either {p : Prop} [Decidable p] {v w : State} (h : EnablesKept s v) (k : EnablesKept s w) :
      EnablesKept s (if p then v else w) := by split <;> assumption
  unfold State.setLevel
  dsimp only
  split
  · exact .refl s
  · exact either (level.trans (sendNotice_enables c d)) level

/-! ### A record is placed (R155 to R157) -/

/-- A numbered record has been placed on account `a`: in the record queue or not, with the account's live totals
changed and no other account's. -/
structure Booked (a : AccountId) (s t : State) : Prop where
  accounting : t.accounting =
    { s.accounting with accounts := t.accounting.accounts, records := t.accounting.records }
  account : ∃ g : Totals → Totals, ∀ k, t.accounting.accounts.get k =
    if k = a then { s.accounting.accounts.get k with live := g (s.accounting.accounts.get k).live }
    else s.accounting.accounts.get k
  enables : EnablesKept s t

theorem Booked.trans {a : AccountId} (h : Booked a s t) (k : Booked a t u) : Booked a s u where
  accounting := by rw [k.accounting, h.accounting]
  account := by
    obtain ⟨g, hg⟩ := h.account
    obtain ⟨f, hf⟩ := k.account
    refine ⟨f ∘ g, fun k => ?_⟩
    rw [hf, hg]
    split <;> rfl
  enables := h.enables.trans k.enables

theorem updateLive_booked (a : AccountId) (g : Totals → Totals) : Booked a s (s.updateLive a g) where
  accounting := rfl
  account := ⟨g, fun k => updateAccount_get a k _⟩
  enables := ⟨rfl, fun _ => rfl⟩

theorem withRecords_booked {a : AccountId} (rs : List Record) :
    Booked a s { s with accounting := { s.accounting with records := rs } } where
  accounting := rfl
  account := ⟨id, fun _ => (ite_self _).symm⟩
  enables := ⟨rfl, fun _ => rfl⟩

theorem setLevel_booked {a : AccountId} (c : NoticeClass) (b : Bool) (d : NoticeData) :
    Booked a s (s.setLevel c b d) where
  accounting := by rw [setLevel_same]
  account := ⟨id, fun _ => by rw [setLevel_same]; exact (ite_self _).symm⟩
  enables := setLevel_enables c b d

/-- The sequence number of a record has been consumed (R155). -/
def numbered (s : State) : State :=
  { s with accounting :=
    { s.accounting with recordSequence := (s.accounting.recordSequence + 1) % 4294967296 } }

theorem placeRecord_booked (r : Record) : Booked r.account (numbered s) (s.placeRecord r) := by
  unfold State.placeRecord
  dsimp only
  refine .trans ?_ (updateLive_booked _ _)
  split
  · exact .trans (.trans (withRecords_booked _) (updateLive_booked _ _)) (setLevel_booked _ _ _)
  · exact updateLive_booked _ _

/-! ### One PARTIAL record (R163, steps 1 to 3) -/

/-- A drive whose occupancy starts afresh, without its fee. -/
def restarted (stamp : Stamp) (e : Drive) : Drive :=
  { e with occupancy := e.occupancy.map fun o =>
      { o with feePending := false, bandSeconds := Bank.replicate 4 0, recordStart := stamp } }

theorem restarted_none {e : Drive} (x : Stamp) (h : e.occupancy = none) : restarted x e = e := by
  rw [restarted, h, Option.map_none, ← h]

theorem closePartial_none {d : DriveId} (h : (s.drive d).occupancy = none) : s.closePartial d = s := by
  simp only [State.closePartial, h]

theorem closePartial_some {d : DriveId} {o : Occupancy} (h : (s.drive d).occupancy = some o) :
    s.closePartial d = (s.placeRecord (s.occupancyRecord d o false)).updateDrive d (restarted s.stamp) := by
  have entry : { s.drive d with occupancy := some { o with
      feePending := false, bandSeconds := Bank.replicate 4 0, recordStart := s.stamp } } =
      restarted s.stamp (s.drive d) := by rw [restarted, h, Option.map_some]
  have placed : (s.placeRecord (s.occupancyRecord d o false)).drive d = s.drive d := by rw [placeRecord_same]; rfl
  simp only [State.closePartial, h, State.updateDrive, Bank.update]
  rw [show (s.placeRecord (s.occupancyRecord d o false)).drives.get d = s.drive d from placed, entry]

/-- What PARTIAL records leave as it was: all but occupancies, live totals, the record queue and its notice. -/
structure Charged (s t : State) : Prop where
  same : t = { s with drives := t.drives, accounting := t.accounting, notices := t.notices, sent := t.sent }
  accounting : t.accounting = { s.accounting with
    accounts := t.accounting.accounts, records := t.accounting.records
    recordSequence := t.accounting.recordSequence }
  account : ∀ a, t.accounting.accounts.get a =
    { s.accounting.accounts.get a with live := (t.accounting.accounts.get a).live }
  sent : s.sent <+: t.sent
  enables : EnablesKept s t

theorem Charged.refl (s : State) : Charged s s := ⟨rfl, rfl, fun _ => rfl, List.prefix_rfl, .refl s⟩

theorem Charged.trans (h : Charged s t) (k : Charged t u) : Charged s u where
  same := by rw [k.same, h.same]
  accounting := by rw [k.accounting, h.accounting]
  account a := by rw [k.account, h.account]
  sent := h.sent.trans k.sent
  enables := h.enables.trans k.enables

theorem Charged.stamp (h : Charged s t) : t.stamp = s.stamp := by rw [h.same]; rfl

theorem placeRecord_charged (r : Record) : Charged s (s.placeRecord r) where
  same := by rw [placeRecord_same]
  accounting := by rw [(placeRecord_booked r).accounting]; rfl
  account a := by
    obtain ⟨g, account⟩ := (placeRecord_booked (s := s) r).account
    rw [account]
    split <;> rfl
  sent := (placeRecord_calm (X := NoJob) (g := True) (o := True) r).sent
  enables := .trans (t := numbered s) ⟨rfl, fun _ => rfl⟩ (placeRecord_booked r).enables

theorem closePartial_charged (d : DriveId) : Charged s (s.closePartial d) := by
  cases h : (s.drive d).occupancy with
  | none => rw [closePartial_none h]; exact .refl s
  | some o =>
    rw [closePartial_some h]
    have placed := placeRecord_charged (s := s) (s.occupancyRecord d o false)
    generalize s.placeRecord _ = v at placed
    exact placed.trans ⟨rfl, rfl, fun _ => rfl, List.prefix_rfl, ⟨rfl, fun _ => rfl⟩⟩

theorem closePartial_drive (d c : DriveId) : (s.closePartial d).drive c =
    if c = d then restarted s.stamp (s.drive c) else s.drive c := by
  cases h : (s.drive d).occupancy with
  | none =>
    rw [closePartial_none h]
    split
    · next e => rw [restarted_none _ (e ▸ h)]
    · rfl
  | some o =>
    have placed : (s.placeRecord (s.occupancyRecord d o false)).drive c = s.drive c := by rw [placeRecord_same]; rfl
    rw [closePartial_some h, updateDrive_get, placed]

theorem restarted_payer (x : Stamp) (e : Drive) :
    (restarted x e).occupancy.map Occupancy.account = e.occupancy.map Occupancy.account := by
  cases h : e.occupancy <;> simp [restarted, h]

theorem closePartial_payer (d c : DriveId) : payer (s.closePartial d) c = payer s c := by
  unfold payer
  rw [closePartial_drive]
  split
  · exact restarted_payer _ _
  · rfl

theorem closePartial_account {d : DriveId} {a : AccountId} (h : payer s d ≠ some a) :
    (s.closePartial d).accounting.accounts.get a = s.accounting.accounts.get a := by
  cases ho : (s.drive d).occupancy with
  | none => rw [closePartial_none ho]
  | some o =>
    have other : a ≠ o.account := fun e => h (by rw [payer, ho, Option.map_some, e])
    obtain ⟨g, account⟩ := (placeRecord_booked (s := s) (s.occupancyRecord d o false)).account
    rw [closePartial_some ho]
    exact (account a).trans (if_neg other)

/-! ### All PARTIAL records -/

/-- Every open occupancy has been charged by its PARTIAL record. -/
def charged (s : State) : State := allDrives.foldl State.closePartial s

theorem charged_charged : Charged s (charged s) := by
  unfold charged
  induction allDrives generalizing s with
  | nil => exact .refl s
  | cons d rest ih => exact (closePartial_charged d).trans ih

theorem charged_drive (d : DriveId) : (charged s).drive d = restarted s.stamp (s.drive d) := by
  unfold charged
  refine foldl_allDrives_drive (P := fun u => u.stamp = s.stamp) (fun u c h => ?_) (fun u h c k => ?_) rfl d
  · exact (closePartial_charged c).stamp.trans h
  · rw [closePartial_drive, h]

theorem charged_account_unnamed {a : AccountId} (h : ∀ d, payer s d ≠ some a) :
    (charged s).accounting.accounts.get a = s.accounting.accounts.get a := by
  unfold charged
  induction allDrives generalizing s with
  | nil => rfl
  | cons d rest ih =>
    rw [List.foldl_cons, ih fun c => by rw [closePartial_payer]; exact h c]
    exact closePartial_account (h d)

theorem charged_unoccupied (h : ∀ d, (s.drive d).occupancy = none) : charged s = s :=
  foldl_unoccupied (fun _ _ => closePartial_none) fun d _ => h d

theorem charged_lone {d : DriveId} (lone : ∀ c, c ≠ d → (s.drive c).occupancy = none) :
    charged s = s.closePartial d :=
  foldl_lone (fun _ _ => closePartial_none) (fun c hc => by rw [closePartial_drive, if_neg hc]) lone

/-! ### The PARTIAL record (R149, R150, R154, R163) -/

theorem exactCharge_partial (d : DriveId) (o : Occupancy) :
    exactCharge s.accounting.active (s.drive d).driveClass o false = timeAndFee s d o := by
  simp only [exactCharge, timeAndFee, timeCharge_eq, Bool.false_eq_true, if_false, Nat.add_zero]

theorem partialRecord_spec (d : DriveId) (o : Occupancy) : let r := s.occupancyRecord d o false
    r.kind = .partialRecord ∧ recordOf s d o r ∧ r.blocksRead = 0 ∧ r.blocksWritten = 0 ∧ r.correctable = 0 ∧
      r.charge = min 16777215 (timeAndFee s d o) ∧ r.saturated = decide (16777215 < timeAndFee s d o) := by
  have serial : o.volume.bind s.serialOf = (o.volume.bind s.volume?).map Volume.serial := by
    cases o.volume <;> rfl
  refine ⟨rfl, ⟨rfl, rfl, rfl, rfl, rfl, rfl, serial, rfl, rfl, rfl, rfl⟩, rfl, rfl, rfl, ?_, ?_⟩
  · exact congrArg (min 16777215) (exactCharge_partial d o)
  · exact congrArg (fun n => decide (16777215 < n)) (exactCharge_partial d o)

/-! ### The close (R163, R164) -/

/-- The live totals move to the closed slots, the period number rises and the tariff is swapped. -/
def turnedOver (u : State) : State :=
  { u with accounting := { u.accounting with
    accounts := u.accounting.accounts.map (Account.close u.accounting.period u.stamp)
    period := (u.accounting.period + 1) % 4294967296
    active := u.accounting.pendingTariff.getD u.accounting.active
    pendingTariff := none } }

theorem closeAccounts_eq : s.closeAccounts =
    (turnedOver (charged s)).raiseEvent .periodClosed (.periodClosed (charged s).accounting.period) := by
  unfold State.closeAccounts charged
  generalize allDrives.foldl State.closePartial s = u
  rfl

/-- What a period close up to its event makes of `s`, when its PARTIAL records leave `w`. -/
structure Ended (s w t : State) : Prop where
  same : t = { s with drives := t.drives, accounting := t.accounting, notices := t.notices, sent := t.sent }
  period : t.accounting.period = (s.accounting.period + 1) % 4294967296
  active : t.accounting.active = s.accounting.pendingTariff.getD s.accounting.active
  pending : t.accounting.pendingTariff = none
  account : ∀ a, t.accounting.accounts.get a = Account.close s.accounting.period s.stamp
    { s.accounting.accounts.get a with live := (w.accounting.accounts.get a).live }
  drive : ∀ d, t.drive d = restarted s.stamp (s.drive d)
  records : t.accounting.records = w.accounting.records
  sequence : t.accounting.recordSequence = w.accounting.recordSequence
  sent : s.sent <+: t.sent
  told : (s.notice .periodClosed).raiseEnable = true →
    sentAmong (.link s.notices.link (.notice (.periodClosed s.accounting.period))) s t

theorem turnedOver_ends {w : State} (c : Charged s w) (drives : ∀ d, w.drive d = restarted s.stamp (s.drive d)) :
    Ended s w ((turnedOver w).raiseEvent .periodClosed (.periodClosed w.accounting.period)) := by
  have period : w.accounting.period = s.accounting.period := by rw [c.accounting]
  have active : w.accounting.active = s.accounting.active := by rw [c.accounting]
  have pending : w.accounting.pendingTariff = s.accounting.pendingTariff := by rw [c.accounting]
  have told (h : (s.notice .periodClosed).raiseEnable = true) :
      sentAmong (.link s.notices.link (.notice (.periodClosed s.accounting.period))) s
        ((turnedOver w).raiseEvent .periodClosed (.periodClosed w.accounting.period)) := by
    have enabled : ((turnedOver w).notice .periodClosed).raiseEnable = true := (c.enables.raise .periodClosed).trans h
    rw [State.raiseEvent, if_pos enabled, ← c.enables.link, period]
    exact sentAmong_of_prefix c.sent List.prefix_rfl
  have later := (raiseEvent_calm (X := NoJob) (g := True) (o := True) (turnedOver w) .periodClosed
    (.periodClosed w.accounting.period)).sent
  have same := raiseEvent_same (turnedOver w) .periodClosed (.periodClosed w.accounting.period)
  generalize (turnedOver w).raiseEvent _ _ = t at told later same
  have swapped : t = { w with
      accounting := (turnedOver w).accounting, notices := t.notices, sent := t.sent } := same
  refine ⟨?_, ?_, ?_, ?_, fun a => ?_, fun d => ?_, ?_, ?_, c.sent.trans later, told⟩
  · rw [swapped, c.same]
  · rw [swapped, ← period]; rfl
  · rw [swapped, ← pending, ← active]; rfl
  · rw [swapped]; rfl
  · rw [swapped, ← c.account, ← period, ← c.stamp]
    exact Bank.get_map _ _ _
  · rw [swapped, ← drives]; rfl
  · rw [swapped]; rfl
  · rw [swapped]; rfl

/-- What a period close up to its event makes of `s`. -/
abbrev PeriodEnded (s t : State) : Prop := Ended s (charged s) t

theorem closeAccounts_ends : PeriodEnded s s.closeAccounts := by
  rw [closeAccounts_eq]
  exact turnedOver_ends charged_charged charged_drive

namespace PeriodEnded

theorem occupancy (h : PeriodEnded s t) (d : DriveId) : (t.drive d).occupancy = (s.drive d).occupancy.map fun o =>
    { o with feePending := false, bandSeconds := Bank.replicate 4 0, recordStart := s.stamp } := by
  rw [h.drive]
  rfl

theorem account_unnamed (h : PeriodEnded s t) {a : AccountId} (unnamed : ∀ d, payer s d ≠ some a) :
    t.accounting.accounts.get a = Account.close s.accounting.period s.stamp (s.accounting.accounts.get a) := by
  rw [h.account, charged_account_unnamed unnamed]

theorem records_unoccupied (h : PeriodEnded s t) (none : ∀ d, (s.drive d).occupancy = none) :
    t.accounting.records = s.accounting.records ∧ t.accounting.recordSequence = s.accounting.recordSequence := by
  rw [h.records, h.sequence, charged_unoccupied none]
  exact ⟨rfl, rfl⟩

/-- The one open occupancy is charged by one PARTIAL record, which joins a queue with room. -/
theorem records_lone (h : PeriodEnded s t) {d : DriveId} {o : Occupancy} (ho : (s.drive d).occupancy = some o)
    (lone : ∀ c, c ≠ d → (s.drive c).occupancy = none) :
    t.accounting.recordSequence = (s.accounting.recordSequence + 1) % 4294967296 ∧
      (s.accounting.records.length < 256 →
        t.accounting.records = s.accounting.records ++ [s.occupancyRecord d o false]) := by
  have placed : (charged s).accounting = (s.placeRecord (s.occupancyRecord d o false)).accounting := by
    rw [charged_lone lone, closePartial_some ho]
    rfl
  rw [h.records, h.sequence, placed]
  refine ⟨?_, fun room => (placeRecord_listed _ room).1⟩
  rw [(placeRecord_booked _).accounting]
  rfl

theorem unchanged (h : PeriodEnded s t) : unchangedBut (aftermath ++ [.accounting]) s t := by
  rw [h.same]
  refine ⟨fun b hb => ?_, rfl, rfl⟩
  cases b <;> first
    | exact absurd (by decide) hb
    | rfl

end PeriodEnded

/-! ### The allowance checks that follow a close (R165) -/

theorem recheckAllowance_calm (n : Nat) : Calm AnyJob True True s (s.recheckAllowance n) := by
  unfold State.recheckAllowance
  split
  · exact .ite (((updateAccount_calm s _ _).trans (updateJob_calm_of _ n _ trivial)).trans
      ((withdrawJobPrompt_calm _ n _ fun _ k _ => absurd trivial k).trans (unhold_calm _ n))) (.refl s)
  · exact .refl s

theorem unhold_still (n : Nat) : (s.unhold n).still = s.still := by
  unfold State.unhold
  split
  · rfl
  · split
    · exact postForJob_still _ _ _ _
    · rfl

theorem recheckAllowance_accounting (n : Nat) : (s.recheckAllowance n).accounting =
    { s.accounting with accounts := (s.recheckAllowance n).accounting.accounts } := by
  unfold State.recheckAllowance
  split
  · split
    · have still (v : State) : ((v.withdrawJobPrompt n fun _ => true).unhold n).accounting = v.accounting :=
        congrArg Still.accounting ((unhold_still n).trans (withdrawJobPrompt_still v n _))
      rw [still]
      rfl
    · rfl
  · rfl

/-- What a period close changes with any job HELD ALLOWANCE. -/
theorem periodClose_unchanged : unchangedBut (aftermath ++ [.accounting]) s s.periodClose := by
  have checked : Calm AnyJob True True s.closeAccounts s.periodClose :=
    Calm.foldl (fun u n _ => recheckAllowance_calm n) _
  exact unchangedBut_trans closeAccounts_ends.unchanged (unchangedBut_of_bare checked.bare)

theorem periodClose_period : s.periodClose.accounting.period = (s.accounting.period + 1) % 4294967296 := by
  refine Eq.trans ?_ closeAccounts_ends.period
  unfold State.periodClose
  dsimp only
  generalize s.closeAccounts = u
  induction u.inOrder _ generalizing u with
  | nil => rfl
  | cons n rest ih => rw [List.foldl_cons, ih, recheckAllowance_accounting]

theorem inOrder_none {p : Job → Bool} (h : ∀ k ∈ s.work.jobs, p k.2 = false) : s.inOrder p = [] := by
  rw [State.inOrder, List.filter_eq_nil_iff.mpr fun k hk => by simp [h k hk]]
  rfl

/-- No job is HELD ALLOWANCE. -/
def noneHeld (s : State) : Prop := ∀ k ∈ s.work.jobs, k.2.state ≠ .held .allowance

/-- With no job HELD ALLOWANCE a close ends with its event. -/
theorem periodClose_ends (h : noneHeld s) : PeriodEnded s s.periodClose := by
  have ends := closeAccounts_ends (s := s)
  have jobs : s.closeAccounts.work.jobs = s.work.jobs := by rw [ends.same]
  have none : (s.closeAccounts.inOrder fun j => decide (j.state = .held .allowance)) = [] :=
    inOrder_none fun k hk => decide_eq_false (h k (jobs ▸ hk))
  unfold State.periodClose
  dsimp only
  rw [none, List.foldl_nil]
  exact ends

end Sys2Proof.ClockTariff
end

section
/-!
O39: CLOSE_PERIOD (R142, R163, R164).
-/

namespace Sys2Proof.ClockTariff

open Machine DriveString

variable {s : State}

theorem exec_closePeriod {l : Link} (tag : Nat) (hp : permits s l) : exec (.closePeriod l tag) s =
    .next (State.finish s (s.respond l tag .closePeriod .accepted).periodClose) := by
  change execClosePeriod l tag s = _
  rw [execClosePeriod, managed_permitted s l tag _ _ hp]

/-- An account that pays for no open occupancy. -/
theorem payer_ne {a : AccountId} (h : ∀ d o, (s.drive d).occupancy = some o → o.account ≠ a) (d : DriveId) :
    payer s d ≠ some a := by
  intro named
  obtain ⟨o, ho, named⟩ := Option.map_eq_some_iff.mp named
  exact h d o ho named

theorem close_empty (p : Nat) (x : Stamp) {e : Account} (h : e.closed = none) : (e.close p x).closed =
    some { period := p, stamp := x, merged := false, totals := e.live } := by simp only [Account.close, h]

theorem close_full (p : Nat) (x : Stamp) {e : Account} {c : ClosedSlot} (h : e.closed = some c) :
    (e.close p x).closed = some { period := p, stamp := x, merged := true, totals := c.totals.add e.live } := by
  simp only [Account.close, h]

/-- Settles O39: the close is read off before what follows the event, which leaves it. -/
theorem periodClosed : Obligations.PeriodClosed := by
  intro s l tag hp held
  have answer := exec_closePeriod tag hp
  have ends := periodClose_ends (s := s.respond l tag .closePeriod .accepted) held
  generalize (s.respond l tag .closePeriod .accepted).periodClose = u at answer ends
  have calm : Calm AnyJob True True u (State.finish s u) := finish_calm_any u s
  have accounting : (State.finish s u).accounting = u.accounting := finish_accounting u s
  generalize State.finish s u = t at answer calm accounting
  refine ⟨t, answer, sentFirst_of_prefix (t := t) (ends.sent.trans calm.sent), ?_⟩
  rw [accounting]
  refine ⟨ends.period, ends.active, ends.pending, fun d => (calm_occupancy calm d).trans (ends.occupancy d),
    fun a => ?_, fun a unnamed => ?_, fun none => ends.records_unoccupied none, fun d o ho lone => ?_,
    fun h => ?_, ?_⟩
  · rw [ends.account]
    exact ⟨rfl, rfl, rfl⟩
  · rw [ends.account_unnamed (payer_ne unnamed)]
    exact ⟨close_empty _ _, fun c => close_full _ _⟩
  · obtain ⟨sequence, listed⟩ := ends.records_lone ho lone
    exact ⟨sequence, fun room => ⟨_, listed room, partialRecord_spec (s := s) d o⟩⟩
  · exact sentAmong_before (sentAmong_after (List.prefix_append _ _) (ends.told h)) calm.sent
  · exact unchangedBut_trans ends.unchanged (unchangedBut_of_bare calm.bare)

end Sys2Proof.ClockTariff
end

section
/-!
O37: the closes that a second advance raises (R134, R135, R141, R163, R164).
-/

namespace Sys2Proof.ClockTariff

open Machine DriveString

variable {s t u : State}

/-! ### An advance and its close -/

theorem advanceOnce_cases : s.advanceOnce = counted s ∧ s.clock.closes s.clock.nextSecond.second = false ∨
    s.advanceOnce = (counted s).periodClose ∧ s.clock.closes s.clock.nextSecond.second = true := by
  rw [advanceOnce_counted]
  cases h : s.clock.closes s.clock.nextSecond.second
  · exact .inl ⟨if_neg Bool.false_ne_true, rfl⟩
  · exact .inr ⟨if_pos rfl, rfl⟩

theorem advanceOnce_clock : s.advanceOnce.clock = s.clock.nextSecond := by
  rcases advanceOnce_cases (s := s) with ⟨h, -⟩ | ⟨h, -⟩
  · rw [h, counted_clock]
  · have clock : (counted s).periodClose.clock = (counted s).clock := periodClose_unchanged.1 .clock (by decide)
    rw [h, clock, counted_clock]

theorem advanceOnce_unchanged : unchangedBut (aftermath ++ [.clock, .accounting]) s s.advanceOnce := by
  rcases advanceOnce_cases (s := s) with ⟨h, -⟩ | ⟨h, -⟩ <;> rw [h]
  · exact unchangedBut_counted
  · exact unchangedBut_trans unchangedBut_counted (unchangedBut_mono periodClose_unchanged (by decide))

theorem counted_whole_accounting :
    (counted s).accounting = { s.accounting with accounts := (counted s).accounting.accounts } := by
  rw [counted_accounting]
  exact accrue_accounting _

/-- Each close ends a period (R164). -/
theorem advanceOnce_period : s.advanceOnce.accounting.period =
    if s.clock.closes s.clock.nextSecond.second then (s.accounting.period + 1) % 4294967296
    else s.accounting.period := by
  have period : (counted s).accounting.period = s.accounting.period := by rw [counted_whole_accounting]
  rcases advanceOnce_cases (s := s) with ⟨h, noClose⟩ | ⟨h, closes⟩
  · rw [h, noClose, period, if_neg Bool.false_ne_true]
  · rw [h, closes, periodClose_period, period, if_pos rfl]

/-! ### A period that goes on -/

/-- From `s` to `t` nothing of the period has been touched but the counts that run in it. -/
structure PeriodKept (s t : State) : Prop where
  accounting : t.accounting = { s.accounting with accounts := t.accounting.accounts }
  closed : ∀ a, (t.accounting.accounts.get a).closed = (s.accounting.accounts.get a).closed
  occupancy : ∀ d o, (s.drive d).occupancy = some o → ∃ o', (t.drive d).occupancy = some o' ∧
    o'.feePending = o.feePending ∧ o'.recordStart = o.recordStart

theorem PeriodKept.trans (h : PeriodKept s t) (k : PeriodKept t u) : PeriodKept s u where
  accounting := by rw [k.accounting, h.accounting]
  closed a := (k.closed a).trans (h.closed a)
  occupancy d o ho := by
    obtain ⟨o₁, ho₁, fee₁, start₁⟩ := h.occupancy d o ho
    obtain ⟨o₂, ho₂, fee₂, start₂⟩ := k.occupancy d o₁ ho₁
    exact ⟨o₂, ho₂, fee₂.trans fee₁, start₂.trans start₁⟩

theorem periodKept_of_same (ha : t.accounting = s.accounting)
    (hd : ∀ d, (t.drive d).occupancy = (s.drive d).occupancy) : PeriodKept s t where
  accounting := by rw [ha]
  closed a := by rw [ha]
  occupancy d o ho := ⟨o, (hd d).trans ho, rfl, rfl⟩

theorem withClock_kept (c : Clock) : PeriodKept s { s with clock := c } := periodKept_of_same rfl fun _ => rfl

theorem counted_kept : PeriodKept s (counted s) where
  accounting := counted_whole_accounting
  closed a := by
    rw [counted_accounting, accrue_account_live]
  occupancy d o ho := by
    refine ⟨o.accrue (s.accounting.active.band s.clock.second), ?_, ?_⟩
    · rw [counted_occupancy, ho, Option.map_some]
    · rw [accrue_eq]
      exact ⟨rfl, rfl⟩

theorem advanceOnce_kept (h : s.clock.closes s.clock.nextSecond.second = false) : PeriodKept s s.advanceOnce := by
  rcases advanceOnce_cases (s := s) with ⟨same, -⟩ | ⟨-, closes⟩
  · rw [same]
    exact counted_kept
  · rw [h] at closes
    exact absurd closes Bool.false_ne_true

/-! ### The further advance of an hour (R135) -/

/-- The tick count after a carry of the ticks that compensation adds. -/
def carriedOver (s : State) : State :=
  { s with clock := { s.clock with tick := s.clock.compensation.toNat - 64 } }

/-- On an hour compensation above 63 ticks makes one further advance, and otherwise moves the clock alone. -/
theorem compensate_cases (tick : s.clock.tick = 0) : s.compensate =
    if 64 ≤ s.clock.compensation then (carriedOver s).advanceOnce
    else { s with clock := compensated s.clock } := by
  unfold State.compensate compensated
  dsimp only
  rw [tick, Nat.zero_add]
  by_cases pos : 0 < s.clock.compensation
  · rw [if_pos pos]
    by_cases carries : 63 < s.clock.compensation.toNat
    · rw [if_pos carries, if_pos (by omega)]
      rfl
    · rw [if_neg carries, if_neg (by omega), if_neg (by omega), if_pos pos]
  · have few : ¬64 ≤ s.clock.compensation := by omega
    rw [if_neg pos, if_neg few, if_neg few, if_neg pos]
    split <;> rfl

theorem carriedOver_period : (carriedOver s).accounting.period = s.accounting.period := rfl

/-- A second advance makes a further one: its second is an hour and its compensation adds 64 ticks or more. -/
def advancesTwice (s : State) : Prop := s.clock.nextSecond.second % 3600 = 0 ∧ 64 ≤ s.clock.compensation

theorem hourly_advance (tick : s.clock.tick = 0) :
    (advancesTwice s → hourly s.advanceOnce = (carriedOver s.advanceOnce).advanceOnce) ∧
      (¬advancesTwice s → ∃ c, hourly s.advanceOnce = { s.advanceOnce with clock := c }) := by
  have clock := advanceOnce_clock (s := s)
  generalize s.advanceOnce = a at clock
  have second : a.clock.second = s.clock.nextSecond.second := by rw [clock]
  have compensation : a.clock.compensation = s.clock.compensation := by rw [clock, nextSecond_eq]
  have cases := compensate_cases (s := a) (by rw [clock, nextSecond_eq]; exact tick)
  rw [compensation] at cases
  refine ⟨fun ⟨hour, adds⟩ => ?_, fun once => ?_⟩
  · rw [hourly, if_pos (second ▸ hour), cases, if_pos adds]
  · by_cases hour : a.clock.second % 3600 = 0
    · rw [hourly, if_pos hour, cases, if_neg fun adds => once ⟨second ▸ hour, adds⟩]
      exact ⟨_, rfl⟩
    · rw [hourly, if_neg hour]
      exact ⟨a.clock, rfl⟩

/-- The second at which the further advance may close is the one after the hour. -/
theorem carriedOver_closes (h : advancesTwice s) : (carriedOver s.advanceOnce).clock.closes
    (carriedOver s.advanceOnce).clock.nextSecond.second = s.clock.closes (s.clock.nextSecond.second + 1) := by
  have clock := advanceOnce_clock (s := s)
  generalize s.advanceOnce = a at clock
  have hour := h.1
  have second : (carriedOver a).clock.nextSecond.second = s.clock.nextSecond.second + 1 := by
    rw [nextSecond_eq, ← clock]
    refine if_neg (show ¬a.clock.second = 86399 from ?_)
    rw [clock]
    omega
  rw [second, ← closes_nextSecond s.clock, ← clock]
  rfl

/-! ### The whole carry -/

theorem hourly_unchanged (tick : s.clock.tick = 0) :
    unchangedBut (aftermath ++ [.clock, .accounting]) s (hourly s.advanceOnce) := by
  obtain ⟨twice, once⟩ := hourly_advance tick
  refine unchangedBut_trans advanceOnce_unchanged ?_
  have moved (v : State) (c : Clock) :
      unchangedBut (aftermath ++ [.clock, .accounting]) v { v with clock := c } :=
    unchangedBut_mono unchangedBut_clock (by decide)
  by_cases h : advancesTwice s
  · rw [twice h]
    exact unchangedBut_trans (moved _ _) advanceOnce_unchanged
  · obtain ⟨c, same⟩ := once h
    rw [same]
    exact moved _ c

/-- The further advance that a second advance makes closes the period. -/
def closesAgain (s : State) : Prop :=
  advancesTwice s ∧ s.clock.closes (s.clock.nextSecond.second + 1) = true

theorem hourly_kept (tick : s.clock.tick = 0) (first : s.clock.closes s.clock.nextSecond.second = false)
    (again : ¬closesAgain s) : PeriodKept s (hourly s.advanceOnce) := by
  obtain ⟨twice, once⟩ := hourly_advance tick
  refine (advanceOnce_kept first).trans ?_
  by_cases h : advancesTwice s
  · have closes : s.clock.closes (s.clock.nextSecond.second + 1) = false :=
      Bool.eq_false_iff.mpr fun c => again ⟨h, c⟩
    rw [← carriedOver_closes h] at closes
    rw [twice h]
    exact (withClock_kept _).trans (advanceOnce_kept closes)
  · obtain ⟨c, same⟩ := once h
    rw [same]
    exact withClock_kept c

theorem hourly_period (tick : s.clock.tick = 0) :
    (closesAgain s → (hourly s.advanceOnce).accounting.period =
      (s.advanceOnce.accounting.period + 1) % 4294967296) ∧
    (¬closesAgain s → (hourly s.advanceOnce).accounting.period = s.advanceOnce.accounting.period) := by
  obtain ⟨twice, once⟩ := hourly_advance tick
  by_cases h : advancesTwice s
  · rw [twice h, advanceOnce_period, carriedOver_closes h, carriedOver_period]
    exact ⟨fun again => if_pos again.2, fun last => if_neg fun c => last ⟨h, c⟩⟩
  · obtain ⟨c, same⟩ := once h
    refine ⟨fun again => absurd again.1 h, fun _ => ?_⟩
    rw [same]

/-- A close with no job HELD ALLOWANCE and no further advance after it. -/
theorem hourly_ends (tick : s.clock.tick = 0) (closes : s.clock.closes s.clock.nextSecond.second = true)
    (once : ¬advancesTwice s) (held : noneHeld (counted s)) :
    ∃ u c, PeriodEnded (counted s) u ∧ hourly s.advanceOnce = { u with clock := c } := by
  obtain ⟨c, same⟩ := (hourly_advance tick).2 once
  rcases advanceOnce_cases (s := s) with ⟨-, not⟩ | ⟨closed, -⟩
  · rw [closes] at not
    exact absurd not.symm Bool.false_ne_true
  · exact ⟨s.advanceOnce, c, by rw [closed]; exact periodClose_ends held, same⟩

/-! ### The command -/

theorem exec_secondAdvance_hourly (running : s.clock.state = .running) :
    exec .secondAdvance s = .next (State.finish s (hourly (atCarry s).advanceOnce)) := by
  have carried := carry_tickZeroed (s := { s.lowerTimers s.clock.ticksToCarry with
    clock := { s.clock with ticksToDrop := 0 } })
  rw [exec_secondAdvance running, carried]
  rfl

theorem noneHeld_counted (h : noneHeld s) : noneHeld (counted (atCarry s)) := by
  have jobs : (counted (atCarry s)).work.jobs = (atCarry s).work.jobs := by rw [counted_same]
  intro k hk
  rw [jobs] at hk
  obtain ⟨e, he, rfl⟩ := List.mem_map.mp hk
  exact h e he

theorem atCarry_occupancy (d : DriveId) : ((atCarry s).drive d).occupancy = (s.drive d).occupancy := by
  rw [atCarry_drive]
  rfl

/-- An occupancy whose second has been counted, at the carry of a second advance. -/
def secondOn (s : State) (o : Occupancy) : Occupancy := o.accrue (s.accounting.active.band s.clock.second)

theorem counted_atCarry_occupancy (d : DriveId) :
    ((counted (atCarry s)).drive d).occupancy = (s.drive d).occupancy.map (secondOn s) := by
  rw [counted_occupancy, atCarry_occupancy]
  rfl

/-- The charge of an occupancy is formed at the rates that stood before the advance. -/
theorem timeAndFee_counted (d : DriveId) (o : Occupancy) : timeAndFee (counted (atCarry s)) d (secondOn s o) =
    timeAndFee s d { o with bandSeconds := (secondOn s o).bandSeconds } := by
  have active : (counted (atCarry s)).accounting.active = s.accounting.active := by
    rw [counted_whole_accounting]
    rfl
  have driveClass : ((counted (atCarry s)).drive d).driveClass = (s.drive d).driveClass := by
    rw [counted_drive, atCarry_drive]
    rfl
  unfold timeAndFee
  rw [active, driveClass, secondOn, accrue_eq]

theorem counted_stamp : (counted (atCarry s)).stamp =
    { day := if s.clock.second = 86399 then (s.clock.day + 1) % 65536 else s.clock.day
      second := if s.clock.second = 86399 then 0 else s.clock.second + 1 } := by
  rw [State.stamp, counted_clock, nextSecond_eq]
  rfl

/-- What a close of the clock makes of `s`, where `w` is `s` with its second counted. -/
structure ClockClosed (s w t : State) : Prop where
  active : t.accounting.active = s.accounting.pendingTariff.getD s.accounting.active
  pending : t.accounting.pendingTariff = none
  told : (s.notice .periodClosed).raiseEnable = true →
    sentAmong (.link s.notices.link (.notice (.periodClosed s.accounting.period))) s t
  account : ∀ a, (t.accounting.accounts.get a).live = Totals.zero ∧
    ∃ c, (t.accounting.accounts.get a).closed = some c ∧ c.period = s.accounting.period ∧
      c.stamp = w.stamp ∧ c.merged = (s.accounting.accounts.get a).closed.isSome
  occupancy : ∀ d o, (s.drive d).occupancy = some o → (t.drive d).occupancy = some { o with
    graceLeft := o.graceLeft - 1, feePending := false, bandSeconds := Bank.replicate 4 0
    recordStart := w.stamp }
  unoccupied : (∀ d, (s.drive d).occupancy = none) → t.accounting.records = s.accounting.records
  lone : ∀ d o, (s.drive d).occupancy = some o → (∀ c, c ≠ d → (s.drive c).occupancy = none) →
    s.accounting.records.length < 256 → t.accounting.records =
      s.accounting.records ++ [w.occupancyRecord d (secondOn s o) false]

theorem close_slot (p : Nat) (x : Stamp) (e : Account) : ∃ c, (e.close p x).closed = some c ∧ c.period = p ∧
    c.stamp = x ∧ c.merged = e.closed.isSome := by
  cases h : e.closed with
  | none => exact ⟨_, close_empty p x h, rfl, rfl, rfl⟩
  | some c => exact ⟨_, close_full p x h, rfl, rfl, rfl⟩

theorem clockClosed_of_ended (ends : PeriodEnded (counted (atCarry s)) u) (accounting : t.accounting = u.accounting)
    (occupancy : ∀ d, (t.drive d).occupancy = (u.drive d).occupancy) (sent : u.sent <+: t.sent) :
    ClockClosed s (counted (atCarry s)) t := by
  have whole := counted_whole_accounting (s := atCarry s)
  have same := counted_same (s := atCarry s)
  have occupied := counted_atCarry_occupancy (s := s)
  have kept := counted_kept (s := atCarry s)
  have charges (d : DriveId) (h : (s.drive d).occupancy = none) :
      ((counted (atCarry s)).drive d).occupancy = none := by rw [occupied, h, Option.map_none]
  generalize counted (atCarry s) = w at ends whole same occupied kept charges
  have period : w.accounting.period = s.accounting.period := by rw [whole]; rfl
  have records : w.accounting.records = s.accounting.records := by rw [whole]; rfl
  have notices : w.notices = s.notices := by rw [same]; rfl
  have before : w.sent = s.sent := by rw [same]; rfl
  refine ⟨?_, ?_, fun h => ?_, fun a => ?_, fun d o ho => ?_, fun none => ?_, fun d o ho lone room => ?_⟩
  · rw [accounting, ends.active, whole]
    rfl
  · rw [accounting, ends.pending]
  · have enabled : (w.notice .periodClosed).raiseEnable = true := by rw [State.notice, notices]; exact h
    have told := ends.told enabled
    rw [notices, period] at told
    exact sentAmong_before (sentAmong_after (by rw [before]) told) sent
  · have slot : (w.accounting.accounts.get a).closed = (s.accounting.accounts.get a).closed := kept.closed a
    rw [accounting, ends.account, ← period, ← slot]
    exact ⟨rfl, close_slot _ _ _⟩
  · rw [occupancy, ends.occupancy, occupied, ho, Option.map_some, Option.map_some, secondOn, accrue_eq]
  · rw [accounting, (ends.records_unoccupied fun d => charges d (none d)).1, records]
  · have counts := (ends.records_lone (d := d) (o := secondOn s o) (by rw [occupied, ho, Option.map_some])
      fun c hc => charges c (lone c hc)).2
    rw [records] at counts
    rw [accounting, counts room]

/-- Settles O37: the carry of the clock, read off by whether each of its advances closes. -/
theorem closeRaisedByTheClock : Obligations.CloseRaisedByTheClock := by
  intro s running _ _ second stamp extra closesAt
  have closing (w : Nat) : closesAt w ↔ s.clock.closes w = true := by
    simp only [closesAt, Clock.closes]
    cases s.clock.closeMode <;> simp
  have next : (atCarry s).clock.nextSecond.second = second := by rw [nextSecond_eq]; rfl
  have first : closesAt second ↔ (atCarry s).clock.closes (atCarry s).clock.nextSecond.second = true := by
    rw [next, closing]
    rfl
  have twice : extra ↔ advancesTwice (atCarry s) := by
    rw [advancesTwice, next]
    rfl
  have again : extra ∧ closesAt (second + 1) ↔ closesAgain (atCarry s) := by
    rw [closesAgain, next, twice, closing]
    rfl
  have stamped : (counted (atCarry s)).stamp = stamp := counted_stamp
  clear_value closesAt extra stamp second
  have unchanged := hourly_unchanged (s := atCarry s) rfl
  have kept := hourly_kept (s := atCarry s) rfl
  obtain ⟨closedAgain, closedOnce⟩ := hourly_period (s := atCarry s) rfl
  have period := advanceOnce_period (s := atCarry s)
  have ended := hourly_ends (s := atCarry s) rfl
  have answer := exec_secondAdvance_hourly running
  generalize hourly (atCarry s).advanceOnce = w at unchanged kept closedAgain closedOnce ended answer
  have calm : Calm AnyJob True True w (State.finish s w) := finish_calm_any w s
  have accounting : (State.finish s w).accounting = w.accounting := finish_accounting w s
  generalize State.finish s w = t at answer calm accounting
  refine ⟨t, answer, ?_, fun no none => ?_, fun either => ?_, fun yes more also => ?_, fun yes once held => ?_⟩
  · exact unchangedBut_trans (unchangedBut_trans unchangedBut_atCarry unchanged)
      (unchangedBut_mono (unchangedBut_of_bare calm.bare) (by decide))
  · have noClose := Bool.eq_false_iff.mpr fun h => no (first.mpr h)
    have all := (kept noClose fun h => none (again.mpr h)).trans
      (periodKept_of_same accounting (calm_occupancy calm))
    exact ⟨all.accounting, all.closed, fun d o ho => all.occupancy d o ((atCarry_occupancy d).trans ho)⟩
  · rw [accounting]
    rcases either with ⟨yes, last⟩ | ⟨no, more⟩
    · rw [closedOnce fun h => last (again.mpr h), period, if_pos (first.mp yes)]
      rfl
    · rw [closedAgain (again.mp more), period, if_neg fun h => no (first.mpr h)]
      rfl
  · rw [accounting, closedAgain (again.mp ⟨more, also⟩), period, if_pos (first.mp yes)]
    exact Nat.mod_add_mod (s.accounting.period + 1) 4294967296 1
  · obtain ⟨u, c, ends, same⟩ := ended (first.mp yes) (fun h => once (twice.mpr h)) (noneHeld_counted held)
    have closed : ClockClosed s (counted (atCarry s)) t := by
      refine clockClosed_of_ended ends ?_ (fun d => ?_) ?_
      · rw [accounting, same]
      · rw [calm_occupancy calm, same]
        rfl
      · have sent := calm.sent
        rwa [same] at sent
    obtain ⟨active, pending, told, account, occupancy, unoccupied, lone⟩ := closed
    rw [stamped] at account occupancy
    refine ⟨active, pending, told, account, occupancy, unoccupied, fun d o ho others room => ?_⟩
    obtain ⟨kind, common, -, -, -, charge, -⟩ := partialRecord_spec (s := counted (atCarry s)) d (secondOn s o)
    rw [timeAndFee_counted] at charge
    have listed := lone d o ho others room
    generalize (counted (atCarry s)).occupancyRecord d (secondOn s o) false = r at kind common charge listed
    obtain ⟨-, ofPeriod, ofAccount, -, ofDrive, -, -, -, start, finish, bands⟩ := common
    have whole : (counted (atCarry s)).accounting.period = s.accounting.period := by
      rw [counted_whole_accounting]
      rfl
    rw [secondOn, accrue_eq] at ofAccount start
    refine ⟨r, listed, kind, ofPeriod.trans whole, ofAccount, ofDrive, start, finish.trans stamped, fun b => ?_, ?_⟩
    · rw [bands]
      exact accrue_bands o _ b
    · rw [bands]
      exact charge

end Sys2Proof.ClockTariff
end
